-- ==== Sys2Proof/Word.lean ====
section
/-!
DEFINITION. The word types: a sensor register (`00_scope.md` R7, R8), a byte of a transport frame, and the 32-bit
image of a real port value (`30_encoding.md` R86).
-/

namespace Sys2Proof

/-- A word: 16 bits, bit 0 least significant (R7, R8). -/
abbrev Word := BitVec 16

/-- One byte of a transport frame (R75). -/
abbrev Byte := BitVec 8

/-- The image of a binary32 value on the `RIN` and `ROUT` ports (R86, decision D6). -/
abbrev Real32 := BitVec 32

end Sys2Proof
end

