-- ==== Sys2Proof/Config.lean ====
section
/-!
DEFINITION. What an implementation fixes and what the spec leaves free: the parameters of `00_scope.md` R5, the draws
of `93_implementation_defined.md`, and what the environment does at a transaction. Every free value is an opaque
constant: nothing in Lean can evaluate it.
-/

namespace Sys2Proof

/-- The ten registers of the sensor, in the order of the register map (`10_state.md` R28). -/
inductive SReg where
  | temp | cfg | high | low | unlock | scr1 | scr2 | offset | scr3 | id
  deriving DecidableEq, Repr, Inhabited

/-- How the transport answers one transaction (`20_memory.md` R44, R45; `70_reset_and_hazards.md` R283). -/
inductive Answer where
  /-- The transaction completes. -/
  | done
  /-- The transport reports `TransportError`. -/
  | failed
  /-- The call never returns (R283). -/
  | never
  deriving DecidableEq, Repr, Inhabited

/-- What the environment does at one transaction (`20_memory.md` R50, R54): first the sensor itself and the other bus
masters change registers, and none of the sensor's two marks (DESIGN CHOICE, log 36), then the transport answers the
block. -/
structure BusEvent where
  /-- The registers changed since the block's last transaction, in order. -/
  changes : List (SReg × Word)
  /-- The transport's answer. -/
  answer : Answer
  deriving DecidableEq, Repr, Inhabited

/-- Nothing else changes the sensor and the transaction completes (the reference sensor, R51). -/
def BusEvent.quiet : BusEvent := { changes := [], answer := .done }

/-- DESIGN CHOICE (log 6), safe. What the environment does at transaction `n`, past the end of the script. -/
opaque Config.busEvent : Nat → BusEvent

/-- The identity constant of one supported variant (R5, decision D10: OPEN; log 15). -/
opaque Config.idA : Word

/-- A candidate for the other identity constant. -/
opaque Config.idBCandidate : Word

/-- The identity constant of the other variant: any word but `ID_A` (decision D10: "distinct 16-bit words"). -/
def Config.idB : Word :=
  if Config.idBCandidate = Config.idA then Config.idA + 1 else Config.idBCandidate

/-- `c2f` away from the two operands at which R134 fixes it (decision D7: OPEN; log 13). -/
opaque Config.c2fFree : Real32 → Real32

/-- `C2RAW_OOR`: the result of `C2RAW` out of range or not finite (R132, decision D8). A function of the operand, as
R20 says of every Layer 0 result (log 12). -/
opaque Config.c2rawFree : Real32 → Word

/-- One less than `T_UNIT` in some unit of time (decision D11: OPEN, a positive duration; log 16). -/
opaque Config.tUnitPred : Nat

/-- `T_UNIT`, positive; no rule reads it (R5, R282). -/
def Config.tUnit : Nat := Config.tUnitPred + 1

/-- The token of the transport instance that `BEGIN` binds the handle to (`10_state.md` R25; log 20). -/
opaque Config.busRef : Nat

/-- The word register `a` holds after the reset command of transaction `n` (`70_reset_and_hazards.md` R272; log 9). -/
opaque Config.afterReset : Nat → SReg → Word

/-- The word register `a` holds after transaction `n`, a write to it, failed (U11, `45_init_and_eeprom.md` R214; log 8). -/
opaque Config.afterFailedWrite : Nat → SReg → Word

/-- The word slot `a` holds once transaction `n` has violated its programming window (R274, U9; log 10). -/
opaque Config.afterWindowViolation : Nat → SReg → Word

/-- The word register `a` holds after transaction `n` wrote it where the spec does not say that the write takes effect:
a slot that is locked or not settled (R35, R275, U10; log 11) or written while a slot is being programmed (log 34), a read-only register (N21; log 28). -/
opaque Config.afterUngatedWrite : Nat → SReg → Word

/-- The undefined value of `OUT` after the `n`-th failed operation (`60_exceptions.md` R248). -/
opaque Config.undefinedOut : Nat → Word

/-- The undefined value of `CODE_OUT` after the `n`-th failed operation (R248). -/
opaque Config.undefinedCodeOut : Nat → Word

/-- The undefined value of `ROUT` after the `n`-th failed operation (R248). -/
opaque Config.undefinedRout : Nat → Real32

end Sys2Proof
end

