-- ==== Sys2Proof/Syntax.lean ====
section
/-!
DEFINITION. The operations (`30_encoding.md` R80), one constructor per row of the opcode table, and the request a
requester presents: the selector and the input ports (`00_scope.md` R6).
-/

namespace Sys2Proof

/-- The five fields of the configuration word, numbered as `FSEL` numbers them (`41_register_codec.md` R100). -/
inductive CfgField where
  | mode | rate | avg | ta | pol
  deriving DecidableEq, Repr

/-- The temperature-format registers the requester may set (`10_state.md` R31 to R33). -/
inductive TempReg where
  | high | low | offset
  deriving DecidableEq, Repr

/-- One request: `OPSEL` and every input port (R6). An operation reads the ports its rule names and no other. -/
structure Request where
  /-- The 8-bit selector (R70). -/
  opsel : Byte
  /-- The current configuration word. -/
  cur : Word := 0
  /-- The raw value to insert or to write. -/
  val : Word := 0
  /-- The temperature code. -/
  code : Word := 0
  /-- The real operand (Celsius). -/
  rin : Real32 := 0
  /-- The register address; `BEGIN` reads bits 6:0 of it as the device address (R210). -/
  addr : Byte := 0
  /-- Opaque argument of `BEGIN` (R5); its type is DESIGN CHOICE (log 22). -/
  clockSpeedHz : Nat := 0
  /-- Opaque, optional argument of `BEGIN` (R45, R210); its type is DESIGN CHOICE (log 22). -/
  transportConfig : Option Nat := none
  deriving DecidableEq, Repr

/-- The 38 operations with the operands each one reads (R80). -/
inductive Instr where
  | packMode (cur val : Word)
  | packRate (cur val : Word)
  | packAvg (cur val : Word)
  | packTa (cur val : Word)
  | packPol (cur val : Word)
  | unpackMode (cur : Word)
  | unpackRate (cur : Word)
  | unpackAvg (cur : Word)
  | unpackTa (cur : Word)
  | unpackPol (cur : Word)
  | raw2c (code : Word)
  | c2raw (rin : Real32)
  | c2f (rin : Real32)
  | raw2f (code : Word)
  | setMode (val : Word)
  | setRate (val : Word)
  | setAvg (val : Word)
  | setTa (val : Word)
  | setPol (val : Word)
  | getMode
  | getRate
  | getAvg
  | getTa
  | getPol
  | rdreg (addr : Byte)
  | wrreg (addr : Byte) (val : Word)
  | getTemp
  | getHigh
  | setHigh (rin : Real32)
  | getLow
  | setLow (rin : Real32)
  | getOffset
  | setOffset (rin : Real32)
  | resetSensor
  | getId
  | beginHandle (address : BitVec 7) (clockSpeedHz : Nat) (transportConfig : Option Nat)
  | wrscratch (addr : Byte) (val : Word)
  | rdscratch (addr : Byte)
  deriving DecidableEq, Repr

/-- `PACK.f` for a field `f`; there is no generic operation, this only picks one of the five (R85 (c)). -/
def Instr.packOf (cur val : Word) : CfgField → Instr
  | .mode => .packMode cur val
  | .rate => .packRate cur val
  | .avg => .packAvg cur val
  | .ta => .packTa cur val
  | .pol => .packPol cur val

/-- `UNPACK.f` for a field `f`. -/
def Instr.unpackOf (cur : Word) : CfgField → Instr
  | .mode => .unpackMode cur
  | .rate => .unpackRate cur
  | .avg => .unpackAvg cur
  | .ta => .unpackTa cur
  | .pol => .unpackPol cur

/-- `SET.f` for a field `f`. -/
def Instr.setOf (val : Word) : CfgField → Instr
  | .mode => .setMode val
  | .rate => .setRate val
  | .avg => .setAvg val
  | .ta => .setTa val
  | .pol => .setPol val

/-- `GET.f` for a field `f`. -/
def Instr.getOf : CfgField → Instr
  | .mode => .getMode
  | .rate => .getRate
  | .avg => .getAvg
  | .ta => .getTa
  | .pol => .getPol

/-- `SET.HIGH`, `SET.LOW` or `SET.OFFSET`. -/
def Instr.setTempOf (rin : Real32) : TempReg → Instr
  | .high => .setHigh rin
  | .low => .setLow rin
  | .offset => .setOffset rin

/-- `GET.HIGH`, `GET.LOW` or `GET.OFFSET`. -/
def Instr.getTempOf : TempReg → Instr
  | .high => .getHigh
  | .low => .getLow
  | .offset => .getOffset

/-- The sensor register that a temperature-format register is. -/
def TempReg.sreg : TempReg → SReg
  | .high => .high
  | .low => .low
  | .offset => .offset

/-- Layer 0 (pure) or Layer 1 (reaches the sensor), as the opcode table's column has it (R3). -/
def Instr.layer : Instr → Nat
  | .packMode _ _ | .packRate _ _ | .packAvg _ _ | .packTa _ _ | .packPol _ _ => 0
  | .unpackMode _ | .unpackRate _ | .unpackAvg _ | .unpackTa _ | .unpackPol _ => 0
  | .raw2c _ | .c2raw _ | .c2f _ | .raw2f _ => 0
  | .setMode _ | .setRate _ | .setAvg _ | .setTa _ | .setPol _ => 1
  | .getMode | .getRate | .getAvg | .getTa | .getPol => 1
  | .rdreg _ | .wrreg _ _ => 1
  | .getTemp | .getHigh | .setHigh _ | .getLow | .setLow _ | .getOffset | .setOffset _ => 1
  | .resetSensor | .getId | .beginHandle _ _ _ | .wrscratch _ _ | .rdscratch _ => 1

/-- Whether the operation is `BEGIN`. -/
def Instr.isBegin : Instr → Bool
  | .beginHandle _ _ _ => true
  | .packMode _ _ | .packRate _ _ | .packAvg _ _ | .packTa _ _ | .packPol _ _ => false
  | .unpackMode _ | .unpackRate _ | .unpackAvg _ | .unpackTa _ | .unpackPol _ => false
  | .raw2c _ | .c2raw _ | .c2f _ | .raw2f _ => false
  | .setMode _ | .setRate _ | .setAvg _ | .setTa _ | .setPol _ => false
  | .getMode | .getRate | .getAvg | .getTa | .getPol => false
  | .rdreg _ | .wrreg _ _ => false
  | .getTemp | .getHigh | .setHigh _ | .getLow | .setLow _ | .getOffset | .setOffset _ => false
  | .resetSensor | .getId | .wrscratch _ _ | .rdscratch _ => false

end Sys2Proof
end

