-- ==== Sys2Proof/WellFormed.lean ====
section
/-!
DEFINITION. The operand checks of the spec that end in a refusal: the admitted addresses of `RDREG`, `WRREG` and
`BEGIN` (`60_exceptions.md` R256). Every other operand is admitted at every value of its width, a slot operand of
`WRSCRATCH` and `RDSCRATCH` too: an invalid one is an error, not a refusal (R243).
-/

namespace Sys2Proof

/-- The operands of an operation are ones the spec gives it a meaning for. -/
def Instr.wf : Instr → Bool
  | .rdreg a => a.toNat ≤ 0x08 || a.toNat == 0x0F
  | .wrreg a _ => a.toNat == 0x01 || a.toNat == 0x02 || a.toNat == 0x03 || a.toNat == 0x04 || a.toNat == 0x07
  | .beginHandle address _ _ => 0x48 ≤ address.toNat && address.toNat ≤ 0x4B
  | .packMode _ _ | .packRate _ _ | .packAvg _ _ | .packTa _ _ | .packPol _ _ => true
  | .unpackMode _ | .unpackRate _ | .unpackAvg _ | .unpackTa _ | .unpackPol _ => true
  | .raw2c _ | .c2raw _ | .c2f _ | .raw2f _ => true
  | .setMode _ | .setRate _ | .setAvg _ | .setTa _ | .setPol _ => true
  | .getMode | .getRate | .getAvg | .getTa | .getPol => true
  | .getTemp | .getHigh | .setHigh _ | .getLow | .setLow _ | .getOffset | .setOffset _ => true
  | .resetSensor | .getId | .wrscratch _ _ | .rdscratch _ => true

end Sys2Proof
end

