-- ==== Sys2Proof/Decode.lean ====
section
/-!
DEFINITION. Decode and encode: from a request to the operation it selects, and back (`30_encoding.md` R70, R76, R80,
R81). The selector is the whole encoding; operands are separate ports, each used at full width (R76).
-/

namespace Sys2Proof

/-- Why a request is not an operation. -/
inductive DecodeError where
  /-- The selector is not in the opcode map (R81). Raised by `decode`; safe. -/
  | reservedSelector (opsel : Byte)
  deriving DecidableEq, Repr

/-- The operation a request selects, with the ports it reads (R80); a reserved selector is rejected by name (R81). -/
def decode (r : Request) : Except DecodeError Instr :=
  match r.opsel.toNat with
  | 0x00 => .ok (.packMode r.cur r.val)
  | 0x01 => .ok (.packRate r.cur r.val)
  | 0x02 => .ok (.packAvg r.cur r.val)
  | 0x03 => .ok (.packTa r.cur r.val)
  | 0x04 => .ok (.packPol r.cur r.val)
  | 0x08 => .ok (.unpackMode r.cur)
  | 0x09 => .ok (.unpackRate r.cur)
  | 0x0A => .ok (.unpackAvg r.cur)
  | 0x0B => .ok (.unpackTa r.cur)
  | 0x0C => .ok (.unpackPol r.cur)
  | 0x10 => .ok (.raw2c r.code)
  | 0x11 => .ok (.c2raw r.rin)
  | 0x12 => .ok (.c2f r.rin)
  | 0x13 => .ok (.raw2f r.code)
  | 0x20 => .ok (.setMode r.val)
  | 0x21 => .ok (.setRate r.val)
  | 0x22 => .ok (.setAvg r.val)
  | 0x23 => .ok (.setTa r.val)
  | 0x24 => .ok (.setPol r.val)
  | 0x28 => .ok .getMode
  | 0x29 => .ok .getRate
  | 0x2A => .ok .getAvg
  | 0x2B => .ok .getTa
  | 0x2C => .ok .getPol
  | 0x30 => .ok (.rdreg r.addr)
  | 0x31 => .ok (.wrreg r.addr r.val)
  | 0x32 => .ok .getTemp
  | 0x33 => .ok .getHigh
  | 0x34 => .ok (.setHigh r.rin)
  | 0x35 => .ok .getLow
  | 0x36 => .ok (.setLow r.rin)
  | 0x37 => .ok .getOffset
  | 0x38 => .ok (.setOffset r.rin)
  | 0x39 => .ok .resetSensor
  | 0x3A => .ok .getId
  | 0x40 => .ok (.beginHandle (r.addr.setWidth 7) r.clockSpeedHz r.transportConfig)
  | 0x41 => .ok (.wrscratch r.addr r.val)
  | 0x42 => .ok (.rdscratch r.addr)
  | _ => .error (.reservedSelector r.opsel)

/-- The selector of an operation (the map of R80). -/
def Instr.opsel : Instr → Byte
  | .packMode _ _ => 0x00
  | .packRate _ _ => 0x01
  | .packAvg _ _ => 0x02
  | .packTa _ _ => 0x03
  | .packPol _ _ => 0x04
  | .unpackMode _ => 0x08
  | .unpackRate _ => 0x09
  | .unpackAvg _ => 0x0A
  | .unpackTa _ => 0x0B
  | .unpackPol _ => 0x0C
  | .raw2c _ => 0x10
  | .c2raw _ => 0x11
  | .c2f _ => 0x12
  | .raw2f _ => 0x13
  | .setMode _ => 0x20
  | .setRate _ => 0x21
  | .setAvg _ => 0x22
  | .setTa _ => 0x23
  | .setPol _ => 0x24
  | .getMode => 0x28
  | .getRate => 0x29
  | .getAvg => 0x2A
  | .getTa => 0x2B
  | .getPol => 0x2C
  | .rdreg _ => 0x30
  | .wrreg _ _ => 0x31
  | .getTemp => 0x32
  | .getHigh => 0x33
  | .setHigh _ => 0x34
  | .getLow => 0x35
  | .setLow _ => 0x36
  | .getOffset => 0x37
  | .setOffset _ => 0x38
  | .resetSensor => 0x39
  | .getId => 0x3A
  | .beginHandle _ _ _ => 0x40
  | .wrscratch _ _ => 0x41
  | .rdscratch _ => 0x42

/-- The request of an operation: its selector, its operands on their ports, every port it does not read at 0. -/
def encode (i : Instr) : Request :=
  match i with
  | .packMode c v | .packRate c v | .packAvg c v | .packTa c v | .packPol c v =>
    { opsel := i.opsel, cur := c, val := v }
  | .unpackMode c | .unpackRate c | .unpackAvg c | .unpackTa c | .unpackPol c => { opsel := i.opsel, cur := c }
  | .raw2c w | .raw2f w => { opsel := i.opsel, code := w }
  | .c2raw x | .c2f x | .setHigh x | .setLow x | .setOffset x => { opsel := i.opsel, rin := x }
  | .setMode v | .setRate v | .setAvg v | .setTa v | .setPol v => { opsel := i.opsel, val := v }
  | .getMode | .getRate | .getAvg | .getTa | .getPol => { opsel := i.opsel }
  | .getTemp | .getHigh | .getLow | .getOffset | .resetSensor | .getId => { opsel := i.opsel }
  | .rdreg a | .rdscratch a => { opsel := i.opsel, addr := a }
  | .wrreg a v | .wrscratch a v => { opsel := i.opsel, addr := a, val := v }
  | .beginHandle address clk cfg =>
    { opsel := i.opsel, addr := address.setWidth 8, clockSpeedHz := clk, transportConfig := cfg }

/-- The request whose selector is the low 8 bits of the `nbits`-bit word `w`, with every operand port at 0: the
selector is all the bits an operation has (R70). -/
def Request.ofTableWord (nbits w : Nat) : Request := { opsel := BitVec.ofNat 8 (w % 2 ^ nbits) }

/-- The operation the decoder reads from a word of the opcode table; none where it rejects the word. -/
def decodeTableWord (nbits w : Nat) : Option Instr :=
  match decode (Request.ofTableWord nbits w) with
  | .ok i => some i
  | .error _ => none

end Sys2Proof
end

