-- ==== Sys2Proof/Machine/State.lean ====
section
/-!
DEFINITION. The state of the machine as plain data: the block's own state (`10_state.md` R24 to R26), its ports
(`00_scope.md` R6), the sensor's registers and hidden state (R28 to R39) and the environment's input
(`20_memory.md` R50, R51); the faults, the refusals, and the state after reset (`70_reset_and_hazards.md` R270).
-/

namespace Sys2Proof.Machine

/-- `INIT_STATE` (R24). -/
inductive InitState where
  | uninitialized | probing | ready | failed
  deriving DecidableEq, Repr

/-- `SEQ_STATE` (R26). -/
inductive SeqState where
  | locked | unlocking | unlocked | writing | settling | locking
  deriving DecidableEq, Repr

/-- The outcomes a Layer 1 operation reports (`60_exceptions.md` R240). -/
inductive Status where
  | ok | transportError | identityMismatch | invalidRegister
  deriving DecidableEq, Repr

/-- The output ports (R6): `none` where the last operation delivers no result on the port. Layer 0 operations have no
`STATUS` at all (R240). A port that a failed operation leaves undefined holds a free value (R248; log 17). -/
structure Outputs where
  status : Option Status
  out : Option Word
  codeOut : Option Word
  rout : Option Real32
  deriving DecidableEq, Repr

/-- One call of the transport master or of the wait service (R6, R44, R45; `45_init_and_eeprom.md` R217). -/
inductive BusRecord where
  /-- `configure(clockSpeedHz, optionalPinAssignment)` on the transport instance `bus`. -/
  | configure (bus : Nat) (clockSpeedHz : Nat) (pins : Option Nat)
  /-- `write(deviceAddress, bytes)`; `ok` tells whether it completed. -/
  | write (bus : Nat) (dev : BitVec 7) (bytes : List Byte) (ok : Bool)
  /-- `writeThenRead(deviceAddress, writeBytes, readLength)`; the bytes received, or none if it failed. -/
  | writeThenRead (bus : Nat) (dev : BitVec 7) (sent : List Byte) (readLength : Nat) (got : Option (List Byte))
  /-- `Wait(n)`, n in `T_UNIT`, a floor (R217). -/
  | wait (units : Nat)
  deriving DecidableEq, Repr

/-- How the sensor behaves (log 7, log 31). -/
inductive SensorKind where
  /-- The general sensor: an oracle (R50). -/
  | oracle
  /-- The reference sensor, "a simulator, not a law" (R51). -/
  | reference
  deriving DecidableEq, Repr

/-- The sensor: its ten registers (R28), the unlock settle still owed (`70_reset_and_hazards.md` R275) and the
programming window (R39 (b), R274). The lock state of R39 (a) is bit 15 of `unlock`. The block holds no copy (R27). -/
structure Sensor where
  temp : Word
  cfg : Word
  high : Word
  low : Word
  unlock : Word
  scr1 : Word
  scr2 : Word
  offset : Word
  scr3 : Word
  id : Word
  /-- `T_UNIT`s still to pass after an unlock before a slot write is sure to take (R275). -/
  settle : Nat
  /-- The slot being programmed and the `T_UNIT`s still to pass (R39 (b), R274). -/
  prog : Option (SReg × Nat)
  deriving DecidableEq, Repr

/-- The state of the machine. -/
structure State where
  /-- The requests still to be served, in issue order (R22, R52; log 1). -/
  requests : List Request
  /-- The output ports as the last operation left them (R6). -/
  outputs : Outputs
  /-- `INIT_STATE` (R24). -/
  initState : InitState
  /-- `DEV_ADDR` (R25). -/
  devAddr : BitVec 7
  /-- The bus reference of the handle (R25; log 20). -/
  busRef : Nat
  /-- `SEQ_STATE` (R26). -/
  seqState : SeqState
  /-- The calls of the transport and the waits made so far, oldest first (R52, R217). -/
  trace : List BusRecord
  /-- The sensor the handle addresses (R28 to R39). -/
  sensor : Sensor
  /-- The model's own: which sensor it is (R50, R51; log 7). -/
  kind : SensorKind
  /-- The model's own: what the environment does at transactions 0, 1, …, as far as it is given (R50; log 6). -/
  script : List BusEvent
  /-- The model's own: the number of the next transaction (log 6). -/
  pos : Nat
  /-- The model's own: the number of the next draw of undefined output ports (log 17). -/
  draws : Nat
  deriving DecidableEq, Repr

/-- Why the machine stops. -/
inductive Fault where
  /-- A transport call never returned: "a transport that never answers hangs the block with it" (R283, U19 "stuck").
  Raised by every Layer 1 operation whose transaction the environment never answers (log 19); safe. -/
  | transportNeverReturns
  deriving DecidableEq, Repr

/-- Why an operation has no meaning here (R256). -/
inductive Refusal where
  /-- The operation is not modelled yet. Raised by `exec` alone; safe. -/
  | notModelled (mnemonic : String)
  /-- A reserved selector (R81). Raised by `step`; safe. -/
  | reservedSelector (opsel : Byte)
  /-- A Layer 1 operation other than `BEGIN` on an `Uninitialized` handle (R250, D26). Raised by those; safe. -/
  | beforeBegin
  /-- `BEGIN` on a handle that is not `Uninitialized` (R210, D18). Raised by `BEGIN`; safe. -/
  | beginAgain
  /-- `BEGIN` with an address outside 0x48 to 0x4B (R210, D17). Raised by `BEGIN`; safe. -/
  | beginAddress (address : BitVec 7)
  /-- `RDREG` of an address that is not in the register map (R38, R160, D19). Raised by `RDREG`; safe. -/
  | readAddress (addr : Byte)
  /-- `WRREG` to an address outside its admitted set (R37, R38, R161, D19). Raised by `WRREG`; safe. -/
  | writeAddress (addr : Byte)
  deriving DecidableEq, Repr

/-- What an operation comes to. -/
abbrev Result := Host.Outcome State Fault Refusal

/-- No result is delivered on any port. -/
def Outputs.nothing : Outputs := { status := none, out := none, codeOut := none, rout := none }

/-- The sensor at reset. The spec gives no register a reset value: DESIGN CHOICE, `ID_A` for `ID` and 0 for every other
register (log 4), locked, settled, with no programming window open (log 5). Unsafe. -/
def Sensor.atReset : Sensor :=
  { temp := 0, cfg := 0, high := 0, low := 0, unlock := 0, scr1 := 0, scr2 := 0, offset := 0, scr3 := 0,
    id := Config.idA, settle := 0, prog := none }

/-- The machine after the block's reset (R270): `Uninitialized`, `Locked`, no bus transaction made. `DEV_ADDR` and the
bus reference are unspecified there: DESIGN CHOICE 0 (log 3), unsafe. -/
def State.reset : State :=
  { requests := [], outputs := Outputs.nothing, initState := .uninitialized, devAddr := 0, busRef := 0,
    seqState := .locked, trace := [], sensor := Sensor.atReset, kind := .oracle, script := [], pos := 0, draws := 0 }

end Sys2Proof.Machine
end

