-- ==== Sys2Proof/Machine/Flags.lean ====
section
/-!
DEFINITION. The block has no flags and no condition codes (`10_state.md` R23): no operation computes one. What stands
in their place is the `STATUS` result of an operation and its numbers (`60_exceptions.md` R240, decision D12).
-/

namespace Sys2Proof.Machine

/-- The number of a status on the 2-bit `STATUS` port (R240). -/
def statusCode : Status → BitVec 2
  | .ok => 0
  | .transportError => 1
  | .identityMismatch => 2
  | .invalidRegister => 3

/-- The status of a number on the `STATUS` port (R240). -/
def statusOfCode (c : BitVec 2) : Status :=
  if c = 0 then .ok else if c = 1 then .transportError else if c = 2 then .identityMismatch else .invalidRegister

end Sys2Proof.Machine
end

