-- ==== Sys2Proof/Machine/Operands.lean ====
section
/-!
DEFINITION. The data formats the operations read and write: words and bytes (`00_scope.md` R8, R9, `20_memory.md` R46),
register addresses (`10_state.md` R28, R37, R38), the field table (`41_register_codec.md` R100), the sentinels
(`30_encoding.md` R73, R74) and the binary32 image of a real (R86).
-/

namespace Sys2Proof.Machine

/-- `sint16(w)`: the two's-complement reading of a word (R9). -/
def sint16 (w : Word) : Int := if w.toNat < 32768 then w.toNat else (w.toNat : Int) - 65536

/-- `u16(n)`: the word `n mod 65536` (R9). -/
def u16 (n : Int) : Word := BitVec.ofInt 16 n

/-- `w[15:8]`. -/
def hiByte (w : Word) : Byte := w.extractLsb' 8 8

/-- `w[7:0]`. -/
def loByte (w : Word) : Byte := w.extractLsb' 0 8

/-- `b0 * 256 + b1`: the first byte received is bits 15:8 (R46, R160). -/
def wordOfBytes (b0 b1 : Byte) : Word := BitVec.ofNat 16 (b0.toNat * 256 + b1.toNat)

/-- The address of a register of the map (R28). -/
def regAddr : SReg → Byte
  | .temp => 0x00
  | .cfg => 0x01
  | .high => 0x02
  | .low => 0x03
  | .unlock => 0x04
  | .scr1 => 0x05
  | .scr2 => 0x06
  | .offset => 0x07
  | .scr3 => 0x08
  | .id => 0x0F

/-- The register at an address of the map, none elsewhere (R28, R38). -/
def regAt (a : Byte) : Option SReg :=
  match a.toNat with
  | 0x00 => some .temp
  | 0x01 => some .cfg
  | 0x02 => some .high
  | 0x03 => some .low
  | 0x04 => some .unlock
  | 0x05 => some .scr1
  | 0x06 => some .scr2
  | 0x07 => some .offset
  | 0x08 => some .scr3
  | 0x0F => some .id
  | _ => none

/-- The scratch slots (R35). -/
def isSlot : SReg → Bool
  | .scr1 | .scr2 | .scr3 => true
  | .temp | .cfg | .high | .low | .unlock | .offset | .id => false

/-- The region of the programming window: the slots and `UNLOCK` (`70_reset_and_hazards.md` R274). -/
def inScratchRegion (a : SReg) : Bool := isSlot a || a == .unlock

/-- The registers `WRREG` may write (R37, `43_config_accessors.md` R161). -/
def wrregAdmits : SReg → Bool
  | .cfg | .high | .low | .unlock | .offset => true
  | .temp | .scr1 | .scr2 | .scr3 | .id => false

/-- The slot at an address: 0x05, 0x06, 0x08 and no other (`45_init_and_eeprom.md` R215). -/
def slotAt (a : Byte) : Option SReg :=
  match regAt a with
  | some r => if isSlot r then some r else none
  | none => none

/-- The legal device addresses (R25). -/
def legalDevAddr (a : BitVec 7) : Bool := a == 0x48 || a == 0x49 || a == 0x4A || a == 0x4B

/-- `LO(f)` (R100). -/
def fieldLo : CfgField → Nat
  | .mode => 10
  | .rate => 7
  | .avg => 5
  | .ta => 4
  | .pol => 3

/-- `W(f)` (R100). -/
def fieldWidth : CfgField → Nat
  | .mode => 2
  | .rate => 3
  | .avg => 2
  | .ta => 1
  | .pol => 1

/-- `HI(f)` (R100). -/
def fieldHi (f : CfgField) : Nat := fieldLo f + fieldWidth f - 1

/-- `VM(f) = 2^W(f) - 1` (R100). -/
def fieldValueMask (f : CfgField) : Word := BitVec.ofNat 16 (2 ^ fieldWidth f - 1)

/-- `M(f) = VM(f) << LO(f)` (R100). -/
def fieldMask (f : CfgField) : Word := fieldValueMask f <<< fieldLo f

/-- `PACK.f` (R101). -/
def pack (f : CfgField) (cur val : Word) : Word :=
  (cur &&& ~~~(fieldMask f)) ||| ((val <<< fieldLo f) &&& fieldMask f)

/-- `UNPACK.f` (R102). -/
def unpack (f : CfgField) (cur : Word) : Word := (cur >>> fieldLo f) &&& fieldValueMask f

/-- The reset sentinel, written to `CFG` (`30_encoding.md` R74). -/
def resetSentinel : Word := 0x8000

/-- The unlock sentinel (R34, R73, decision D14). -/
def unlockSentinel : Word := 0x8000

/-- The lock sentinel (R34, R73). -/
def lockSentinel : Word := 0x0000

/-- `T_SETTLE` in `T_UNIT` (R5). -/
def tSettle : Nat := 2

/-- `T_PROGRAM` in `T_UNIT` (R5). -/
def tProgram : Nat := 10

/-- Bit 31 of a binary32 image: the sign (R86). -/
def f32Sign (x : Real32) : Bool := x.getLsbD 31

/-- Bits 30:23: the biased exponent (R86). -/
def f32Exp (x : Real32) : Nat := (x.extractLsb' 23 8).toNat

/-- Bits 22:0: the fraction (R86). -/
def f32Frac (x : Real32) : Nat := (x.extractLsb' 0 23).toNat

/-- Exponent 255 gives infinities and NaNs; every other image is finite (R86). -/
def f32Finite (x : Real32) : Bool := f32Exp x != 255

/-- The magnitude of a finite value, as a multiple of 2^-149 (R86). -/
def f32Mag (x : Real32) : Nat :=
  if f32Exp x = 0 then f32Frac x else (2 ^ 23 + f32Frac x) * 2 ^ (f32Exp x - 1)

/-- A finite value as an integer multiple of 2^-149; both zeros give 0. -/
def f32Num (x : Real32) : Int := if f32Sign x then -(f32Mag x : Int) else f32Mag x

/-- `val(x)`: the rational a finite `x` denotes (`00_scope.md` R10). -/
def f32Val (x : Real32) : ℚ := (f32Num x : ℚ) / 2 ^ 149

end Sys2Proof.Machine
end

