-- ==== Sys2Proof/Machine/SensorModel.lean ====
section
/-!
DEFINITION. What the sensor does when the environment acts, when it is written, when a write fails and while the block
waits: the oracle (`20_memory.md` R50) and the reference sensor (R51). `n` is the number of the transaction.
-/

namespace Sys2Proof.Machine

/-- What register `a` holds. -/
def Sensor.get (a : SReg) (x : Sensor) : Word :=
  match a with
  | .temp => x.temp
  | .cfg => x.cfg
  | .high => x.high
  | .low => x.low
  | .unlock => x.unlock
  | .scr1 => x.scr1
  | .scr2 => x.scr2
  | .offset => x.offset
  | .scr3 => x.scr3
  | .id => x.id

/-- Register `a` replaced whole by `v` (R49). -/
def Sensor.set (a : SReg) (v : Word) (x : Sensor) : Sensor :=
  match a with
  | .temp => { x with temp := v }
  | .cfg => { x with cfg := v }
  | .high => { x with high := v }
  | .low => { x with low := v }
  | .unlock => { x with unlock := v }
  | .scr1 => { x with scr1 := v }
  | .scr2 => { x with scr2 := v }
  | .offset => { x with offset := v }
  | .scr3 => { x with scr3 := v }
  | .id => { x with id := v }

/-- The lock state: bit 15 of `UNLOCK` as it stands (`10_state.md` R34, R39 (a)). -/
def Sensor.isUnlocked (x : Sensor) : Bool := x.unlock.getLsbD 15

/-- The changes that the sensor itself and other bus masters make before a transaction (R50, R54). DESIGN CHOICE, unsafe
(log 36): they change what registers hold and nothing else, so another master's slot write opens no programming window
and its unlock owes no settle time. -/
def Sensor.applyChanges (x : Sensor) : List (SReg × Word) → Sensor
  | [] => x
  | (a, v) :: rest => Sensor.applyChanges (x.set a v) rest

/-- A transaction to `UNLOCK` or to a slot while a slot is being programmed leaves that slot's value unspecified (R274,
U9; log 10); on the reference sensor "nothing else changes `Reg`" (R51). -/
def Sensor.touch (k : SensorKind) (n : Nat) (a : SReg) (x : Sensor) : Sensor :=
  match k with
  | .reference => x
  | .oracle =>
    if inScratchRegion a then
      match x.prog with
      | some (slot, _) => x.set slot (Config.afterWindowViolation n slot)
      | none => x
    else x

/-- The sensor as transaction `n`, to register `a`, finds it: after the environment's changes, which move no mark (log
36), and after what the transaction itself does to a window that the block's own write left open. -/
def Sensor.arrive (k : SensorKind) (n : Nat) (e : BusEvent) (a : SReg) (x : Sensor) : Sensor :=
  (x.applyChanges e.changes).touch k n a

/-- The marks a write of the block leaves (another master's leaves none: log 36): an unlock starts the settle time
(R275), a slot write starts the programming window (R39 (b), R274). -/
def Sensor.mark (a : SReg) (v : Word) (x : Sensor) : Sensor :=
  if isSlot a then { x with prog := some (a, tProgram) }
  else if a = .unlock then { x with settle := if v.getLsbD 15 then tSettle else 0 }
  else x

/-- The reset command: every register but the persistent slots and `ID` is again an unconstrained draw
(`43_config_accessors.md` R175, R272; log 9). -/
def Sensor.resetCommand (n : Nat) (x : Sensor) : Sensor :=
  { x with
    temp := Config.afterReset n .temp, cfg := Config.afterReset n .cfg, high := Config.afterReset n .high,
    low := Config.afterReset n .low, unlock := Config.afterReset n .unlock, offset := Config.afterReset n .offset }

/-- The register contents after a completed write of `v` to `a`. The reference sensor: R51. The oracle: R49 for `CFG`,
`HIGH`, `LOW`, `OFFSET` and `UNLOCK` (log 29), at any time, right after a reset command too (DESIGN CHOICE, log 35: R280
(c) gives no time the sensor needs then); a slot takes the value when the sensor is unlocked, settled and programming no
slot (R35, R275, R278), and is free otherwise (log 11; DESIGN CHOICE, log 34, for a write while a window is still open);
`TEMP` and `ID` are never written by the block (R37) and would be free (N21; log 28). -/
def Sensor.store (k : SensorKind) (n : Nat) (a : SReg) (v : Word) (x : Sensor) : Sensor :=
  match k with
  | .reference =>
    match a with
    | .cfg | .high | .low | .unlock | .offset => x.set a v
    | .scr1 | .scr2 | .scr3 => if x.isUnlocked then x.set a v else x
    | .temp | .id => x
  | .oracle =>
    match a with
    | .cfg => if v = resetSentinel then x.resetCommand n else x.set .cfg v
    | .high | .low | .unlock | .offset => x.set a v
    | .scr1 | .scr2 | .scr3 =>
      if x.isUnlocked && x.settle == 0 && x.prog.isNone then x.set a v
      else x.set a (Config.afterUngatedWrite n a)
    | .temp | .id => x.set a (Config.afterUngatedWrite n a)

/-- A completed write. -/
def Sensor.written (k : SensorKind) (n : Nat) (a : SReg) (v : Word) (x : Sensor) : Sensor := (x.store k n a v).mark a v

/-- A failed write: whether the sensor took it is not known, so the register holds a free value, and the marks stand as
if it had been taken (U11, `45_init_and_eeprom.md` R214, `60_exceptions.md` R248; log 8). -/
def Sensor.writeFailed (k : SensorKind) (n : Nat) (a : SReg) (v : Word) (x : Sensor) : Sensor :=
  ((match k, a with
    | .oracle, .cfg => if v = resetSentinel then x.resetCommand n else x
    | _, _ => x).set a (Config.afterFailedWrite n a)).mark a v

/-- `Wait(n)` runs both marks down by its floor (R39 (b), `45_init_and_eeprom.md` R217; log 16). -/
def Sensor.elapse (n : Nat) (x : Sensor) : Sensor :=
  { x with
    settle := x.settle - n,
    prog := match x.prog with
      | some (slot, m) => if m ≤ n then none else some (slot, m - n)
      | none => none }

end Sys2Proof.Machine
end

