-- ==== Sys2Proof/Machine/Ops.lean ====
section
/-!
DEFINITION. The named operations the meanings share: the environment's act at a transaction, `MemRead`, `MemWrite` and
`Wait` (`00_scope.md` R11), ending an operation with a result, and `raise E`, the counterpart of taking an exception
(`60_exceptions.md` R248). There is no counterpart of a return from one (R249).
-/

namespace Sys2Proof.Machine

/-- What the environment does at transaction `n`: as the script says; past its end nothing for the reference sensor
(R51), anything for the oracle (R50). -/
def State.eventAt (s : State) (n : Nat) : BusEvent :=
  match s.script[n]? with
  | some e => e
  | none =>
    match s.kind with
    | .reference => BusEvent.quiet
    | .oracle => Config.busEvent n

/-- What the environment does at the next transaction. -/
def State.event (s : State) : BusEvent := s.eventAt s.pos

/-- The sensor as the next transaction, to register `a`, finds it. -/
def State.found (s : State) (a : SReg) : Sensor := s.sensor.arrive s.kind s.pos s.event a

/-- What becomes of a transaction, or of a sequence of them. -/
inductive Reply (α : Type) where
  | done (v : α) (s : State)
  | failed (s : State)
  | hung

/-- The state after a completed `writeThenRead(DEV_ADDR, [a], 2)` (R45, R75): the bytes received are those of the
register the sensor holds, most significant byte first (R46). A read by itself changes no register (R49; log 30). -/
def readDone (a : SReg) (s : State) : State :=
  { s with
    sensor := s.found a, pos := s.pos + 1,
    trace := s.trace ++ [.writeThenRead s.busRef s.devAddr [regAddr a] 2
      (some [hiByte ((s.found a).get a), loByte ((s.found a).get a)])] }

/-- The state after a failed `writeThenRead(DEV_ADDR, [a], 2)`. -/
def readFailed (a : SReg) (s : State) : State :=
  { s with
    sensor := s.found a, pos := s.pos + 1,
    trace := s.trace ++ [.writeThenRead s.busRef s.devAddr [regAddr a] 2 none] }

/-- `writeThenRead(DEV_ADDR, [a], 2)`: one transaction (R45). -/
def readBytes (a : SReg) (s : State) : Reply (Byte × Byte) :=
  match s.event.answer with
  | .never => .hung
  | .failed => .failed (readFailed a s)
  | .done => .done (hiByte ((s.found a).get a), loByte ((s.found a).get a)) (readDone a s)

/-- `MemRead(a, 2)` (`43_config_accessors.md` R160). -/
def memRead (a : SReg) (s : State) : Reply Word :=
  match readBytes a s with
  | .done b s' => .done (wordOfBytes b.1 b.2) s'
  | .failed s' => .failed s'
  | .hung => .hung

/-- The frame of a register write: the address, then the data, most significant byte first (R46, R75). -/
def writeFrame (a : SReg) (v : Word) : List Byte := [regAddr a, hiByte v, loByte v]

/-- The state after a completed `write(DEV_ADDR, [a, v[15:8], v[7:0]])` (R44, R161). -/
def writeDone (a : SReg) (v : Word) (s : State) : State :=
  { s with
    sensor := (s.found a).written s.kind s.pos a v, pos := s.pos + 1,
    trace := s.trace ++ [.write s.busRef s.devAddr (writeFrame a v) true] }

/-- The state after a failed `write(DEV_ADDR, [a, v[15:8], v[7:0]])`. -/
def writeFailed (a : SReg) (v : Word) (s : State) : State :=
  { s with
    sensor := (s.found a).writeFailed s.kind s.pos a v, pos := s.pos + 1,
    trace := s.trace ++ [.write s.busRef s.devAddr (writeFrame a v) false] }

/-- `MemWrite(a, 2, v)` (R161): one transaction of three bytes. -/
def memWrite (a : SReg) (v : Word) (s : State) : Reply Unit :=
  match s.event.answer with
  | .never => .hung
  | .failed => .failed (writeFailed a v s)
  | .done => .done () (writeDone a v s)

/-- `Wait(n)` (R11, R217): recorded, and the sensor's marks run down (log 16); it always
returns (log 24). -/
def waitUnits (n : Nat) (s : State) : State :=
  { s with sensor := s.sensor.elapse n, trace := s.trace ++ [.wait n] }

/-- `configure(clockSpeedHz, optionalPinAssignment)`: best-effort, cannot fail (R45). -/
def configure (clk : Nat) (pins : Option Nat) (s : State) : State :=
  { s with trace := s.trace ++ [.configure s.busRef clk pins] }

/-- `INIT_STATE <- v`. -/
def setInit (v : InitState) (s : State) : State := { s with initState := v }

/-- `SEQ_STATE <- v`. -/
def setSeq (v : SeqState) (s : State) : State := { s with seqState := v }

/-- The output ports replaced. -/
def setOutputs (o : Outputs) (s : State) : State := { s with outputs := o }

/-- The ports of a Layer 0 result on `OUT`; Layer 0 has no `STATUS` (R240). -/
def pureOut (v : Word) : Outputs := { Outputs.nothing with out := some v }

/-- The ports of a Layer 0 result on `CODE_OUT`. -/
def pureCodeOut (v : Word) : Outputs := { Outputs.nothing with codeOut := some v }

/-- The ports of a Layer 0 result on `ROUT`. -/
def pureRout (x : Real32) : Outputs := { Outputs.nothing with rout := some x }

/-- The ports after `return OK` with no other result (R11). -/
def okNothing : Outputs := { Outputs.nothing with status := some .ok }

/-- The ports after `return OK` with a result on `OUT`. -/
def okOut (v : Word) : Outputs := { okNothing with out := some v }

/-- The ports after `return OK` with a result on `ROUT`. -/
def okRout (x : Real32) : Outputs := { okNothing with rout := some x }

/-- The ports after the `n`-th failure: `STATUS` is the error, "every other output port is undefined" (R248). -/
def failedWith (e : Status) (n : Nat) : Outputs :=
  { status := some e, out := some (Config.undefinedOut n), codeOut := some (Config.undefinedCodeOut n),
    rout := some (Config.undefinedRout n) }

/-- The state after `raise E`: only the ports change (R248). -/
def raised (e : Status) (s : State) : State :=
  { s with outputs := failedWith e s.draws, draws := s.draws + 1 }

/-- An operation ends with these results. -/
def finish (o : Outputs) (s : State) : Result := .next (setOutputs o s)

/-- `raise E`: the operation ends at once with `STATUS = E` (R11, R248). -/
def raise (e : Status) (s : State) : Result := .next (raised e s)

/-- The next step of an operation after a transaction: nothing follows one that never returns (R283), and a failed one
ends the operation with `TransportError` (R241). -/
def Reply.orRaise {α : Type} (r : Reply α) (k : α → State → Result) : Result :=
  match r with
  | .done v s => k v s
  | .failed s => raise .transportError s
  | .hung => .fault .transportNeverReturns

/-- A Layer 1 operation other than `BEGIN`: refused while the handle has no device address (R250, D26), before its
operands are looked at (log 18); on a `Failed` one it runs (log 25). -/
def onHandle (s : State) (k : State → Result) : Result :=
  if s.initState = .uninitialized then .refused .beforeBegin else k s

/-- A read of register `a` whose word becomes the results `o`: the getters, `RDREG`, `GET.ID`, `RDSCRATCH`. -/
def readAndFinish (a : SReg) (o : Word → Outputs) (s : State) : Result :=
  (memRead a s).orRaise fun w s1 => finish (o w) s1

/-- A direct write of `v` to register `a`: `WRREG`, the temperature setters, `RESET`. -/
def writeAndFinish (a : SReg) (v : Word) (s : State) : Result :=
  (memWrite a v s).orRaise fun _ s1 => finish okNothing s1

end Sys2Proof.Machine
end

