-- ==== Sys2Proof/Machine/Accessors.lean ====
section
/-!
DEFINITION. Raw register access, the configuration setters and getters, and the reset write
(`43_config_accessors.md` R160 to R175).
-/

namespace Sys2Proof.Machine

/-- `SET.f` (R162): read `CFG`, insert the field, write `CFG` back, even when nothing changes. -/
def setField (f : CfgField) (val : Word) (s : State) : Result :=
  onHandle s fun s =>
    (memRead .cfg s).orRaise fun c s1 => writeAndFinish .cfg (pack f c val) s1

/-- `GET.f` (R168): read `CFG`, extract the field. -/
def getField (f : CfgField) (s : State) : Result :=
  onHandle s fun s => readAndFinish .cfg (fun c => okOut (unpack f c)) s

/-- `SET.MODE` (R163). -/
def execSetMode (val : Word) (s : State) : Result := setField .mode val s

/-- `SET.RATE` (R164). -/
def execSetRate (val : Word) (s : State) : Result := setField .rate val s

/-- `SET.AVG` (R165). -/
def execSetAvg (val : Word) (s : State) : Result := setField .avg val s

/-- `SET.TA` (R166). -/
def execSetTa (val : Word) (s : State) : Result := setField .ta val s

/-- `SET.POL` (R167). -/
def execSetPol (val : Word) (s : State) : Result := setField .pol val s

/-- `GET.MODE` (R169). -/
def execGetMode (s : State) : Result := getField .mode s

/-- `GET.RATE` (R170). -/
def execGetRate (s : State) : Result := getField .rate s

/-- `GET.AVG` (R171). -/
def execGetAvg (s : State) : Result := getField .avg s

/-- `GET.TA` (R172). -/
def execGetTa (s : State) : Result := getField .ta s

/-- `GET.POL` (R173). -/
def execGetPol (s : State) : Result := getField .pol s

/-- `RDREG` (R160): any register of the map; any other address is refused (R38). -/
def execRdreg (addr : Byte) (s : State) : Result :=
  onHandle s fun s =>
    match regAt addr with
    | some a => readAndFinish a okOut s
    | none => .refused (.readAddress addr)

/-- `WRREG` (R161): only the admitted registers; any other address is refused (R37, R38). -/
def execWrreg (addr : Byte) (val : Word) (s : State) : Result :=
  onHandle s fun s =>
    match regAt addr with
    | some a => if wrregAdmits a then writeAndFinish a val s else .refused (.writeAddress addr)
    | none => .refused (.writeAddress addr)

/-- `RESET` (R175): one blind write of the reset sentinel; no block state changes (`70_reset_and_hazards.md` R271). -/
def execResetSensor (s : State) : Result := onHandle s fun s => writeAndFinish .cfg resetSentinel s

end Sys2Proof.Machine
end

