-- ==== Sys2Proof/Machine/Codec.lean ====
section
/-!
DEFINITION. The register codec operations: `PACK.f` and `UNPACK.f` (`41_register_codec.md` R101 to R112). Layer 0: pure,
no state of the block is read or written (`10_state.md` R20); the result goes to `OUT`.
-/

namespace Sys2Proof.Machine

/-- `PACK.MODE` (R103). -/
def execPackMode (cur val : Word) (s : State) : Result := finish (pureOut (pack .mode cur val)) s

/-- `PACK.RATE` (R104). -/
def execPackRate (cur val : Word) (s : State) : Result := finish (pureOut (pack .rate cur val)) s

/-- `PACK.AVG` (R105). -/
def execPackAvg (cur val : Word) (s : State) : Result := finish (pureOut (pack .avg cur val)) s

/-- `PACK.TA` (R106). -/
def execPackTa (cur val : Word) (s : State) : Result := finish (pureOut (pack .ta cur val)) s

/-- `PACK.POL` (R107). -/
def execPackPol (cur val : Word) (s : State) : Result := finish (pureOut (pack .pol cur val)) s

/-- `UNPACK.MODE` (R108). -/
def execUnpackMode (cur : Word) (s : State) : Result := finish (pureOut (unpack .mode cur)) s

/-- `UNPACK.RATE` (R109). -/
def execUnpackRate (cur : Word) (s : State) : Result := finish (pureOut (unpack .rate cur)) s

/-- `UNPACK.AVG` (R110). -/
def execUnpackAvg (cur : Word) (s : State) : Result := finish (pureOut (unpack .avg cur)) s

/-- `UNPACK.TA` (R111). -/
def execUnpackTa (cur : Word) (s : State) : Result := finish (pureOut (unpack .ta cur)) s

/-- `UNPACK.POL` (R112). -/
def execUnpackPol (cur : Word) (s : State) : Result := finish (pureOut (unpack .pol cur)) s

end Sys2Proof.Machine
end

