-- ==== Sys2Proof/Machine/Sequencer.lean ====
section
/-!
DEFINITION. The initialisation probe and the scratch sequencer (`45_init_and_eeprom.md` R210 to R217): the two places
where the block has control state. `Probing`, `Unlocked` and `Settling` show only inside them (log 2).
-/

namespace Sys2Proof.Machine

/-- One of the two accepted identities (R210, R36). -/
def acceptedId (w : Word) : Bool := w == Config.idA || w == Config.idB

/-- The steps of `BEGIN` before its probe: `Probing`, the handle bound, the transport configured (R210; the bus
reference: `70_reset_and_hazards.md` R270, log 20). -/
def beginProbe (address : BitVec 7) (clk : Nat) (pins : Option Nat) (s : State) : State :=
  configure clk pins { s with initState := .probing, devAddr := address, busRef := Config.busRef }

/-- `BEGIN` (R210, R211). Bit 7 of `ADDR` is not part of its address (log 21). -/
def execBeginHandle (address : BitVec 7) (clk : Nat) (pins : Option Nat) (s : State) : Result :=
  if s.initState = .uninitialized then
    if legalDevAddr address then
      match memRead .id (beginProbe address clk pins s) with
      | .done w s1 =>
        if acceptedId w then finish okNothing (setInit .ready s1)
        else raise .identityMismatch (setInit .failed s1)
      | .failed s1 => raise .transportError (setInit .failed s1)
      | .hung => .fault .transportNeverReturns
    else .refused (.beginAddress address)
  else .refused .beginAgain

/-- Step 2 of `WRSCRATCH` (R212): unlock, then the settle wait in `Unlocked`. -/
def unlockPhase (s : State) : Reply Unit :=
  match memWrite .unlock unlockSentinel (setSeq .unlocking s) with
  | .done _ s1 => .done () (waitUnits tSettle (setSeq .unlocked s1))
  | .failed s1 => .failed s1
  | .hung => .hung

/-- Steps 3 and 4 of `WRSCRATCH` (R212): the data write, then the programming wait in `Settling`. -/
def programPhase (slot : SReg) (val : Word) (s : State) : Reply Unit :=
  match memWrite slot val (setSeq .writing s) with
  | .done _ s1 => .done () (waitUnits tProgram (setSeq .settling s1))
  | .failed s1 => .failed s1
  | .hung => .hung

/-- Step 5 of `WRSCRATCH` (R212): lock. -/
def lockPhase (s : State) : Reply Unit :=
  match memWrite .unlock lockSentinel (setSeq .locking s) with
  | .done _ s1 => .done () (setSeq .locked s1)
  | .failed s1 => .failed s1
  | .hung => .hung

/-- `WRSCRATCH` (R212 to R216): the slot check before anything else (R215), then the three phases; a failed write ends
the operation there, with no attempt to lock (decision D22). -/
def execWrscratch (addr : Byte) (val : Word) (s : State) : Result :=
  onHandle s fun s =>
    match slotAt addr with
    | none => raise .invalidRegister s
    | some slot =>
      (unlockPhase s).orRaise fun _ s1 =>
        (programPhase slot val s1).orRaise fun _ s2 =>
          (lockPhase s2).orRaise fun _ s3 => finish okNothing s3

/-- `RDSCRATCH` (R213): a plain read of a valid slot. -/
def execRdscratch (addr : Byte) (s : State) : Result :=
  onHandle s fun s =>
    match slotAt addr with
    | none => raise .invalidRegister s
    | some slot => readAndFinish slot okOut s

end Sys2Proof.Machine
end

