-- ==== Sys2Proof/Machine/Scaler.lean ====
section
/-!
DEFINITION. The temperature scaler: `RAW2C`, `C2RAW`, `C2F`, `RAW2F` (`42_temperature_scaler.md` R130 to R139), and the
two named candidates for `c2f` (R134). Layer 0: pure. Reals are binary32 images (`30_encoding.md` R86).
-/

namespace Sys2Proof.Machine

/-- `RAW2C`: the binary32 image of `sint16(code) / 128`, exactly (R131). With `m` the magnitude and `e` the place of its
top bit, the biased exponent is `e - 7 + 127` and the fraction is what `m` has below that bit. -/
def raw2c (code : Word) : Real32 :=
  let n := sint16 code
  let m := n.natAbs
  if m = 0 then 0
  else
    let e := Nat.log2 m
    BitVec.ofNat 32 ((if n < 0 then 2 ^ 31 else 0) + (e + 119) * 2 ^ 23 + m * 2 ^ (23 - e))

/-- `trunc(val(x) * 128)` of a finite `x`, toward zero (R132, decision D20): a magnitude in 2^-149 over 2^142. -/
def truncCode (x : Real32) : Int :=
  let t : Int := (f32Mag x / 2 ^ 142 : Nat)
  if f32Sign x then -t else t

/-- `C2RAW` delivers a code the spec gives for this operand (R132). -/
def c2rawInRange (x : Real32) : Bool :=
  f32Finite x && decide (-32768 ≤ truncCode x) && decide (truncCode x ≤ 32767)

/-- `C2RAW` (R132): truncation where the result fits, otherwise any word (decision D8; log 12). -/
def c2raw (x : Real32) : Word := if c2rawInRange x then u16 (truncCode x) else Config.c2rawFree x

/-- `c2f`: 32.0 at +0.0 (P1), 212.0 at 100.0 (P2), free elsewhere, a function of its operand alone (P3) (R134). -/
def c2f (x : Real32) : Real32 :=
  if x = 0x00000000#32 then 0x42000000#32
  else if x = 0x42C80000#32 then 0x43540000#32
  else Config.c2fFree x

/-- `RAW2F` is `C2F` after `RAW2C` (R135). -/
def raw2f (code : Word) : Real32 := c2f (raw2c code)

/-- `RAW2C` (R131). -/
def execRaw2c (code : Word) (s : State) : Result := finish (pureRout (raw2c code)) s

/-- `C2RAW` (R132). -/
def execC2raw (rin : Real32) (s : State) : Result := finish (pureCodeOut (c2raw rin)) s

/-- `C2F` (R133). -/
def execC2f (rin : Real32) (s : State) : Result := finish (pureRout (c2f rin)) s

/-- `RAW2F` (R135). -/
def execRaw2f (code : Word) (s : State) : Result := finish (pureRout (raw2f code)) s

/-! ### The named candidates of R134: no meaning uses them -/

/-- `rnd` to a binary format: the image of `num / 2^scale` rounded to nearest, ties to even, with `prec` significant
bits, smallest quantum `2^-qmin` and the image `inf` of infinity (R10, R134); the sign bit is left out. -/
def roundMagnitude (prec qmin inf : Nat) (mag scale : Nat) : Nat :=
  if mag = 0 then 0
  else
    let sh : Int := max ((Nat.log2 mag : Int) - (prec - 1 : Nat)) ((scale : Int) - qmin)
    let n :=
      if sh ≤ 0 then mag * 2 ^ (-sh).toNat
      else
        let d := 2 ^ sh.toNat
        let q := mag / d
        let r := mag % d
        if d < 2 * r || (2 * r == d && q % 2 == 1) then q + 1 else q
    min inf ((sh - scale + qmin).toNat * 2 ^ (prec - 1) + n)

/-- `rnd_F`: `num / 2^scale` rounded to binary32 (R10). -/
def roundF (num : Int) (scale : Nat) : Real32 :=
  BitVec.ofNat 32 ((if num < 0 then 2 ^ 31 else 0) + roundMagnitude 24 149 (255 * 2 ^ 23) num.natAbs scale)

/-- The integer multiple of 2^-1074 that `num / 2^scale` rounded to binary64 (`rnd_D`) denotes; none past the largest
finite value. -/
def roundDNum (num : Int) (scale : Nat) : Option Int :=
  let b := roundMagnitude 53 1074 (2047 * 2 ^ 52) num.natAbs scale
  let e := b / 2 ^ 52
  let m := b % 2 ^ 52
  if e = 2047 then none
  else
    let v : Nat := if e = 0 then m else (2 ^ 52 + m) * 2 ^ (e - 1)
    some (if num < 0 then -(v : Int) else v)

/-- `c2f_single` (R134), on finite operands whose product stays finite: the spec gives it no value elsewhere
(log 14). -/
def c2fSingle (x : Real32) : Option Real32 :=
  if f32Finite x then
    let y := roundF (f32Num x * 7549747) 171
    if f32Finite y then some (roundF (f32Num y + 32 * 2 ^ 149) 149) else none
  else none

/-- `c2f_double` (R134), on finite operands: the spec gives it no value elsewhere (log 14). -/
def c2fDouble (x : Real32) : Option Real32 :=
  if f32Finite x then
    match roundDNum (f32Num x * 8106479329266893) 201 with
    | none => none
    | some y =>
      match roundDNum (y + 32 * 2 ^ 1074) 1074 with
      | none => none
      | some z => some (roundF z 1074)
  else none

end Sys2Proof.Machine
end

