-- ==== Sys2Proof/Machine/Temperature.lean ====
section
/-!
DEFINITION. The temperature-format register accessors and the identity read (`44_temperature_registers.md` R190 to
R197).
-/

namespace Sys2Proof.Machine

/-- Read a temperature-format register and scale it (R190, R192, R194, R196). -/
def getScaled (a : SReg) (s : State) : Result :=
  onHandle s fun s => readAndFinish a (fun w => okRout (raw2c w)) s

/-- Convert and write a temperature-format register: one write, no read (R191, R193, R195). -/
def setScaled (a : SReg) (rin : Real32) (s : State) : Result :=
  onHandle s fun s => writeAndFinish a (c2raw rin) s

/-- `GET.TEMP` (R190). -/
def execGetTemp (s : State) : Result := getScaled .temp s

/-- `GET.HIGH` (R192). -/
def execGetHigh (s : State) : Result := getScaled .high s

/-- `SET.HIGH` (R191). -/
def execSetHigh (rin : Real32) (s : State) : Result := setScaled .high rin s

/-- `GET.LOW` (R194). -/
def execGetLow (s : State) : Result := getScaled .low s

/-- `SET.LOW` (R193). -/
def execSetLow (rin : Real32) (s : State) : Result := setScaled .low rin s

/-- `GET.OFFSET` (R196). -/
def execGetOffset (s : State) : Result := getScaled .offset s

/-- `SET.OFFSET` (R195). -/
def execSetOffset (rin : Real32) (s : State) : Result := setScaled .offset rin s

/-- `GET.ID` (R197): the word as read, compared with nothing. -/
def execGetId (s : State) : Result := onHandle s fun s => readAndFinish .id okOut s

end Sys2Proof.Machine
end

