-- ==== Sys2Proof/Machine/Dispatch.lean ====
section
/-!
DEFINITION. The dispatch: one arm per operation, each one direct call of its meaning.
-/

namespace Sys2Proof.Machine

def exec (i : Instr) (s : State) : Host.Outcome State Fault Refusal :=
  match i with
  | .packMode cur val => Sys2Proof.Machine.execPackMode cur val s
  | .packRate cur val => Sys2Proof.Machine.execPackRate cur val s
  | .packAvg cur val => Sys2Proof.Machine.execPackAvg cur val s
  | .packTa cur val => Sys2Proof.Machine.execPackTa cur val s
  | .packPol cur val => Sys2Proof.Machine.execPackPol cur val s
  | .unpackMode cur => Sys2Proof.Machine.execUnpackMode cur s
  | .unpackRate cur => Sys2Proof.Machine.execUnpackRate cur s
  | .unpackAvg cur => Sys2Proof.Machine.execUnpackAvg cur s
  | .unpackTa cur => Sys2Proof.Machine.execUnpackTa cur s
  | .unpackPol cur => Sys2Proof.Machine.execUnpackPol cur s
  | .raw2c code => Sys2Proof.Machine.execRaw2c code s
  | .c2raw rin => Sys2Proof.Machine.execC2raw rin s
  | .c2f rin => Sys2Proof.Machine.execC2f rin s
  | .raw2f code => Sys2Proof.Machine.execRaw2f code s
  | .setMode val => Sys2Proof.Machine.execSetMode val s
  | .setRate val => Sys2Proof.Machine.execSetRate val s
  | .setAvg val => Sys2Proof.Machine.execSetAvg val s
  | .setTa val => Sys2Proof.Machine.execSetTa val s
  | .setPol val => Sys2Proof.Machine.execSetPol val s
  | .getMode => Sys2Proof.Machine.execGetMode s
  | .getRate => Sys2Proof.Machine.execGetRate s
  | .getAvg => Sys2Proof.Machine.execGetAvg s
  | .getTa => Sys2Proof.Machine.execGetTa s
  | .getPol => Sys2Proof.Machine.execGetPol s
  | .rdreg addr => Sys2Proof.Machine.execRdreg addr s
  | .wrreg addr val => Sys2Proof.Machine.execWrreg addr val s
  | .getTemp => Sys2Proof.Machine.execGetTemp s
  | .getHigh => Sys2Proof.Machine.execGetHigh s
  | .setHigh rin => Sys2Proof.Machine.execSetHigh rin s
  | .getLow => Sys2Proof.Machine.execGetLow s
  | .setLow rin => Sys2Proof.Machine.execSetLow rin s
  | .getOffset => Sys2Proof.Machine.execGetOffset s
  | .setOffset rin => Sys2Proof.Machine.execSetOffset rin s
  | .resetSensor => Sys2Proof.Machine.execResetSensor s
  | .getId => Sys2Proof.Machine.execGetId s
  | .beginHandle address clk pins => Sys2Proof.Machine.execBeginHandle address clk pins s
  | .wrscratch addr val => Sys2Proof.Machine.execWrscratch addr val s
  | .rdscratch addr => Sys2Proof.Machine.execRdscratch addr s

end Sys2Proof.Machine
end

