-- ==== Sys2Proof/Machine/Step.lean ====
section
/-!
DEFINITION. One step: the block serves the next request whole (`10_state.md` R22, `20_memory.md` R52). With no request
presented it waits (log 1).
-/

namespace Sys2Proof.Machine

/-- One step of the machine. -/
def step (s : State) : Host.Outcome State Fault Refusal :=
  match s.requests with
  | [] => .next s
  | r :: rest =>
    match decode r with
    | .ok i => exec i { s with requests := rest }
    | .error (.reservedSelector op) => .refused (.reservedSelector op)

/-- `s` with the operation of an opcode-table word, its operand ports at 0, as the next request (log 26). -/
def State.withFetchWord (s : State) (nbits w : Nat) : State :=
  { s with requests := Request.ofTableWord nbits w :: s.requests }

end Sys2Proof.Machine
end

