-- ==== Sys2Proof/Machine/Settings.lean ====
section
/-!
DEFINITION. The named settings of the configuration fields and their raw values (`30_encoding.md` R79, decision D13),
and the typed setter calls that expand to the operations with those raw values (R85 (a)).
-/

namespace Sys2Proof.Machine

/-- The settings of `MODE` (R79). -/
inductive ModeSetting where
  | continuous | shutdown | continuousAlt | oneShot
  deriving DecidableEq, Repr

/-- The settings of `AVG` (R79). -/
inductive AvgSetting where
  | none | avg8 | avg32 | avg64
  deriving DecidableEq, Repr

/-- The settings of `TA` (R79). -/
inductive TaSetting where
  | alert | therm
  deriving DecidableEq, Repr

/-- The settings of `POL` (R79). -/
inductive PolSetting where
  | activeLow | activeHigh
  deriving DecidableEq, Repr

/-- A setting of one of the five fields; those of `RATE` are the integers 0 to 7 (R79). -/
inductive Setting where
  | mode (v : ModeSetting)
  | rate (v : Fin 8)
  | avg (v : AvgSetting)
  | ta (v : TaSetting)
  | pol (v : PolSetting)
  deriving DecidableEq, Repr

/-- The field a setting belongs to. -/
def settingField : Setting → CfgField
  | .mode _ => .mode
  | .rate _ => .rate
  | .avg _ => .avg
  | .ta _ => .ta
  | .pol _ => .pol

/-- The raw value of a setting: its position in the list the document gives (R79). -/
def settingRaw : Setting → Word
  | .mode .continuous => 0
  | .mode .shutdown => 1
  | .mode .continuousAlt => 2
  | .mode .oneShot => 3
  | .rate v => BitVec.ofNat 16 v.val
  | .avg .none => 0
  | .avg .avg8 => 1
  | .avg .avg32 => 2
  | .avg .avg64 => 3
  | .ta .alert => 0
  | .ta .therm => 1
  | .pol .activeLow => 0
  | .pol .activeHigh => 1

/-- The operation a typed setter call expands to (R85 (a)). -/
def typedSet (v : Setting) : Instr := Instr.setOf (settingRaw v) (settingField v)

end Sys2Proof.Machine
end

