-- ==== Sys2Proof/Safety.lean ====
section
/-!
DEFINITION. What the statements about runs speak of: a handle that is ready, a transport that answers, the reference
sensor, the waits the programming window and the unlock settle call for, and the invariant of the block's state.
-/

namespace Sys2Proof.Machine

/-- The premise of every claim about what a Layer 1 operation does (`60_exceptions.md` R250, decision D26). -/
abbrev State.isReady (s : State) : Prop := s.initState = .ready

/-- The `k` next transactions all complete. -/
abbrev State.completes (s : State) (k : Nat) : Prop := ∀ j, j < k → (s.eventAt (s.pos + j)).answer = .done

/-- The transport answers every call, with completion or with an error: the fairness premise of
`70_reset_and_hazards.md` R283. -/
def State.transportAnswers (s : State) : Prop := ∀ n, (s.eventAt n).answer ≠ .never

/-- The sensor is the reference sensor of `20_memory.md` R51: it never fails, nothing else changes it, and its `ID` is
`ID_A`. -/
structure State.onReference (s : State) : Prop where
  kind : s.kind = .reference
  script : s.script = []
  ident : s.sensor.id = Config.idA

/-- The waits still owed before the region of the scratch slots may be used again. -/
structure Owed where
  /-- Before the next slot write, after an unlock (R275). -/
  settle : Nat
  /-- Before the next transaction to `UNLOCK` or a slot, after a slot write (R274). -/
  program : Nat
  deriving DecidableEq, Repr

/-- Nothing is owed. -/
def Owed.zero : Owed := { settle := 0, program := 0 }

/-- What is owed after one call on the bus; none where the call comes before a wait that was owed (R274, R275). DESIGN
CHOICE (log 33): a write that failed in the transport owes no wait, though the sensor may have taken it (U11), because
R274 calls a violation possible only with a second bus master or a bare `WRREG`. -/
def Owed.after (o : Owed) : BusRecord → Option Owed
  | .configure _ _ _ => some o
  | .wait n => some { settle := o.settle - n, program := o.program - n }
  | .writeThenRead _ _ sent _ _ =>
    match sent with
    | [a] =>
      match regAt a with
      | some r => if inScratchRegion r && o.program != 0 then none else some o
      | none => some o
    | _ => some o
  | .write _ _ bytes ok =>
    match bytes with
    | [a, hi, _] =>
      match regAt a with
      | some r =>
        if isSlot r then
          if o.program != 0 || o.settle != 0 then none
          else some (if ok then { o with program := tProgram } else o)
        else if r = .unlock then
          if o.program != 0 then none
          else some (if ok then { o with settle := if hi.getLsbD 7 then tSettle else 0 } else o)
        else some o
      | none => some o
    | _ => some o

/-- What is owed after a list of calls. -/
def Owed.afterAll (o : Owed) : List BusRecord → Option Owed
  | [] => some o
  | r :: rest =>
    match o.after r with
    | some o' => o'.afterAll rest
    | none => none

/-- The block's own calls keep every wait that R274 and R275 ask for, and no slot is left being programmed. (An unlock
written by a bare `WRREG` owes its settle time to the next slot write only; a failed write owes nothing: log 33.) -/
def waitsKept (t : List BusRecord) : Bool :=
  match Owed.zero.afterAll t with
  | some o => o.program == 0
  | none => false

/-- What holds of the block at every operation boundary: `Probing` is held only inside `BEGIN` (R24); `SEQ_STATE` is
`Locked` or the step at which a write failed (R26, R214); a bound handle has a legal device address (R25); before
`BEGIN` nothing has been sent and the sequencer is where reset left it (R270); the waits of the scratch sequence are
kept (R274, R275). -/
structure State.Inv (s : State) : Prop where
  boundary : s.initState ≠ .probing
  sequencer : s.seqState = .locked ∨ s.seqState = .unlocking ∨ s.seqState = .writing ∨ s.seqState = .locking
  address : s.initState ≠ .uninitialized → legalDevAddr s.devAddr = true
  fresh : s.initState = .uninitialized → s.trace = [] ∧ s.seqState = .locked
  waits : waitsKept s.trace = true

/-- The four output ports, in the order `STATUS`, `OUT`, `CODE_OUT`, `ROUT`. -/
abbrev ports (status : Option Status) (out codeOut : Option Word) (rout : Option Real32) : Outputs :=
  { status := status, out := out, codeOut := codeOut, rout := rout }

/-- On a ready handle the operation makes one read, of register `a`, and delivers `o` of the word read; if the read
fails it ends with `TransportError`. Nothing else of the block changes. -/
def ReadsInto (i : Instr) (a : SReg) (o : Word → Outputs) : Prop :=
  ∀ s : State, s.isReady →
    (s.event.answer = .done →
      exec i s = .next { s with
        outputs := o ((s.found a).get a)
        sensor := s.found a
        pos := s.pos + 1
        trace := s.trace ++ [.writeThenRead s.busRef s.devAddr [regAddr a] 2
          (some [hiByte ((s.found a).get a), loByte ((s.found a).get a)])] }) ∧
    (s.event.answer = .failed →
      ∃ o' : Outputs, o'.status = some .transportError ∧
        exec i s = .next { s with
          outputs := o'
          draws := s.draws + 1
          sensor := s.found a
          pos := s.pos + 1
          trace := s.trace ++ [.writeThenRead s.busRef s.devAddr [regAddr a] 2 none] })

/-- In this state the operation makes one write, of `v` to register `a`, and reports `OK`; if the write fails it ends
with `TransportError`. Nothing else of the block changes. -/
def WritesAt (i : Instr) (a : SReg) (v : Word) (s : State) : Prop :=
  (s.event.answer = .done →
    exec i s = .next { s with
      outputs := ports (some .ok) none none none
      sensor := (s.found a).written s.kind s.pos a v
      pos := s.pos + 1
      trace := s.trace ++ [.write s.busRef s.devAddr [regAddr a, hiByte v, loByte v] true] }) ∧
  (s.event.answer = .failed →
    ∃ o' : Outputs, o'.status = some .transportError ∧
      exec i s = .next { s with
        outputs := o'
        draws := s.draws + 1
        sensor := (s.found a).writeFailed s.kind s.pos a v
        pos := s.pos + 1
        trace := s.trace ++ [.write s.busRef s.devAddr [regAddr a, hiByte v, loByte v] false] })

/-- On a ready handle the operation makes one write, of `v` to register `a`. -/
def WritesOnce (i : Instr) (a : SReg) (v : Word) : Prop := ∀ s : State, s.isReady → WritesAt i a v s

/-- On a ready handle the operation makes one write to register `a`, of some word: a draw, which may be another one each
time. -/
def WritesSomeWord (i : Instr) (a : SReg) : Prop := ∀ s : State, s.isReady → ∃ v : Word, WritesAt i a v s

/-- On a ready handle the operation reads `CFG`, then writes back `insert` of the word read, in two transactions
between which the environment acts; if the read fails nothing is written; if the write fails the read has happened. -/
def UpdatesCfg (i : Instr) (insert : Word → Word) : Prop :=
  ∀ s : State, s.isReady →
    let c := (s.found .cfg).cfg
    let n := insert c
    let x := (s.found .cfg).arrive s.kind (s.pos + 1) (s.eventAt (s.pos + 1)) .cfg
    let readDone := BusRecord.writeThenRead s.busRef s.devAddr [0x01] 2 (some [hiByte c, loByte c])
    ((s.eventAt s.pos).answer = .done → (s.eventAt (s.pos + 1)).answer = .done →
      exec i s = .next { s with
        outputs := ports (some .ok) none none none
        sensor := x.written s.kind (s.pos + 1) .cfg n
        pos := s.pos + 2
        trace := s.trace ++ [readDone, .write s.busRef s.devAddr [0x01, hiByte n, loByte n] true] }) ∧
    ((s.eventAt s.pos).answer = .failed →
      ∃ o' : Outputs, o'.status = some .transportError ∧
        exec i s = .next { s with
          outputs := o'
          draws := s.draws + 1
          sensor := s.found .cfg
          pos := s.pos + 1
          trace := s.trace ++ [.writeThenRead s.busRef s.devAddr [0x01] 2 none] }) ∧
    ((s.eventAt s.pos).answer = .done → (s.eventAt (s.pos + 1)).answer = .failed →
      ∃ o' : Outputs, o'.status = some .transportError ∧
        exec i s = .next { s with
          outputs := o'
          draws := s.draws + 1
          sensor := x.writeFailed s.kind (s.pos + 1) .cfg n
          pos := s.pos + 2
          trace := s.trace ++ [readDone, .write s.busRef s.devAddr [0x01, hiByte n, loByte n] false] })

/-- What the spec refuses of a decoded operation (`60_exceptions.md` R256): a Layer 1 operation before any `BEGIN`
(R250), `BEGIN` on a handle that is not `Uninitialized`, an operand of `RDREG`, `WRREG` or `BEGIN` outside its admitted
set. -/
def refuses (i : Instr) (s : State) : Prop :=
  (i.layer = 1 ∧ i.isBegin = false ∧ s.initState = .uninitialized) ∨
  (i.isBegin = true ∧ s.initState ≠ .uninitialized) ∨
  (∃ a : Byte, i = .rdreg a ∧ 0x08 < a.toNat ∧ a.toNat ≠ 0x0F) ∨
  (∃ (a : Byte) (v : Word), i = .wrreg a v ∧ a ≠ 0x01 ∧ a ≠ 0x02 ∧ a ≠ 0x03 ∧ a ≠ 0x04 ∧ a ≠ 0x07) ∨
  (∃ (a : BitVec 7) (clk : Nat) (pins : Option Nat), i = .beginHandle a clk pins ∧
    a ≠ 0x48 ∧ a ≠ 0x49 ∧ a ≠ 0x4A ∧ a ≠ 0x4B)

/-- The input ports of a request (`00_scope.md` R6); `address` is bits 6:0 of `ADDR`, which `BEGIN` reads
(`45_init_and_eeprom.md` R210). -/
inductive Port where
  | cur | val | code | rin | addr | address | clockSpeedHz | transportConfig
  deriving DecidableEq, Repr

/-- The input ports an operation reads (R6, R210). -/
def portsRead : Instr → List Port
  | .packMode _ _ | .packRate _ _ | .packAvg _ _ | .packTa _ _ | .packPol _ _ => [.cur, .val]
  | .unpackMode _ | .unpackRate _ | .unpackAvg _ | .unpackTa _ | .unpackPol _ => [.cur]
  | .raw2c _ | .raw2f _ => [.code]
  | .c2raw _ | .c2f _ | .setHigh _ | .setLow _ | .setOffset _ => [.rin]
  | .setMode _ | .setRate _ | .setAvg _ | .setTa _ | .setPol _ => [.val]
  | .getMode | .getRate | .getAvg | .getTa | .getPol => []
  | .getTemp | .getHigh | .getLow | .getOffset | .resetSensor | .getId => []
  | .rdreg _ | .rdscratch _ => [.addr]
  | .wrreg _ _ | .wrscratch _ _ => [.addr, .val]
  | .beginHandle _ _ _ => [.address, .clockSpeedHz, .transportConfig]

/-- The request `r` with every port that `i` does not read at 0, and bit 7 of `ADDR` at 0 where only bits 6:0 are
read. -/
def onlyPortsOf (i : Instr) (r : Request) : Request :=
  { opsel := r.opsel
    cur := if .cur ∈ portsRead i then r.cur else 0
    val := if .val ∈ portsRead i then r.val else 0
    code := if .code ∈ portsRead i then r.code else 0
    rin := if .rin ∈ portsRead i then r.rin else 0
    addr := if .addr ∈ portsRead i then r.addr else if .address ∈ portsRead i then r.addr &&& 0x7F else 0
    clockSpeedHz := if .clockSpeedHz ∈ portsRead i then r.clockSpeedHz else 0
    transportConfig := if .transportConfig ∈ portsRead i then r.transportConfig else none }

/-- How many transactions the operation makes at most (`43_config_accessors.md` R160 to R175,
`45_init_and_eeprom.md` R210 to R213). -/
def mostTransactions : Instr → Nat
  | .packMode _ _ | .packRate _ _ | .packAvg _ _ | .packTa _ _ | .packPol _ _ => 0
  | .unpackMode _ | .unpackRate _ | .unpackAvg _ | .unpackTa _ | .unpackPol _ => 0
  | .raw2c _ | .c2raw _ | .c2f _ | .raw2f _ => 0
  | .setMode _ | .setRate _ | .setAvg _ | .setTa _ | .setPol _ => 2
  | .getMode | .getRate | .getAvg | .getTa | .getPol => 1
  | .rdreg _ | .wrreg _ _ => 1
  | .getTemp | .getHigh | .setHigh _ | .getLow | .setLow _ | .getOffset | .setOffset _ => 1
  | .resetSensor | .getId | .beginHandle _ _ _ | .rdscratch _ => 1
  | .wrscratch _ _ => 3

/-- Truncation toward zero of a rational (`00_scope.md` R10). -/
def truncQ (q : ℚ) : Int := if 0 ≤ q then ⌊q⌋ else ⌈q⌉

/-- The reals `C2RAW` has a code for: finite, above -256.0078125 and below 256.0 (R132). -/
abbrev inCodeRange (x : Real32) : Prop := f32Finite x = true ∧ -(32769 / 128 : ℚ) < f32Val x ∧ f32Val x < 256

end Sys2Proof.Machine
end

