-- ==== Sys2Proof/Certificates/Slice0/Obligations.lean ====
section
/-!
DEFINITION. The statements about the model, from the numbered rules of the spec. Each says in full what changes and,
by giving the whole next state, what does not.
-/

open Sys2Proof Sys2Proof.Machine

/-! ### The register codec -/

/-- R103 to R107: the result of each `PACK.f`, its selector, and that nothing else of the machine changes. -/
def Obligations.PackDeliversTheClosedForms : Prop :=
  ∀ (c v : Word) (s : State),
    (exec (.packMode c v) s = .next { s with
        outputs := ports none (some ((c &&& 0xF3FF) ||| ((v <<< 10) &&& 0x0C00))) none none } ∧
      (Instr.packMode c v).opsel = 0x00) ∧
    (exec (.packRate c v) s = .next { s with
        outputs := ports none (some ((c &&& 0xFC7F) ||| ((v <<< 7) &&& 0x0380))) none none } ∧
      (Instr.packRate c v).opsel = 0x01) ∧
    (exec (.packAvg c v) s = .next { s with
        outputs := ports none (some ((c &&& 0xFF9F) ||| ((v <<< 5) &&& 0x0060))) none none } ∧
      (Instr.packAvg c v).opsel = 0x02) ∧
    (exec (.packTa c v) s = .next { s with
        outputs := ports none (some ((c &&& 0xFFEF) ||| ((v <<< 4) &&& 0x0010))) none none } ∧
      (Instr.packTa c v).opsel = 0x03) ∧
    (exec (.packPol c v) s = .next { s with
        outputs := ports none (some ((c &&& 0xFFF7) ||| ((v <<< 3) &&& 0x0008))) none none } ∧
      (Instr.packPol c v).opsel = 0x04)

/-- R108 to R112: the result of each `UNPACK.f`, its selector, and that nothing else of the machine changes. -/
def Obligations.UnpackDeliversTheClosedForms : Prop :=
  ∀ (c : Word) (s : State),
    (exec (.unpackMode c) s = .next { s with outputs := ports none (some ((c >>> 10) &&& 0x0003)) none none } ∧
      (Instr.unpackMode c).opsel = 0x08) ∧
    (exec (.unpackRate c) s = .next { s with outputs := ports none (some ((c >>> 7) &&& 0x0007)) none none } ∧
      (Instr.unpackRate c).opsel = 0x09) ∧
    (exec (.unpackAvg c) s = .next { s with outputs := ports none (some ((c >>> 5) &&& 0x0003)) none none } ∧
      (Instr.unpackAvg c).opsel = 0x0A) ∧
    (exec (.unpackTa c) s = .next { s with outputs := ports none (some ((c >>> 4) &&& 0x0001)) none none } ∧
      (Instr.unpackTa c).opsel = 0x0B) ∧
    (exec (.unpackPol c) s = .next { s with outputs := ports none (some ((c >>> 3) &&& 0x0001)) none none } ∧
      (Instr.unpackPol c).opsel = 0x0C)

/-- R100: the field table with the `FSEL` numbers (the selector of `PACK.f` is the number of its field), the masks
pairwise disjoint, their union 0x0FF8. -/
def Obligations.FieldTableIsAsGiven : Prop :=
  ((fieldHi .mode, fieldLo .mode, fieldWidth .mode) = (11, 10, 2) ∧ fieldValueMask .mode = 0x0003 ∧
    fieldMask .mode = 0x0C00 ∧ ~~~(fieldMask .mode) = 0xF3FF) ∧
  ((fieldHi .rate, fieldLo .rate, fieldWidth .rate) = (9, 7, 3) ∧ fieldValueMask .rate = 0x0007 ∧
    fieldMask .rate = 0x0380 ∧ ~~~(fieldMask .rate) = 0xFC7F) ∧
  ((fieldHi .avg, fieldLo .avg, fieldWidth .avg) = (6, 5, 2) ∧ fieldValueMask .avg = 0x0003 ∧
    fieldMask .avg = 0x0060 ∧ ~~~(fieldMask .avg) = 0xFF9F) ∧
  ((fieldHi .ta, fieldLo .ta, fieldWidth .ta) = (4, 4, 1) ∧ fieldValueMask .ta = 0x0001 ∧
    fieldMask .ta = 0x0010 ∧ ~~~(fieldMask .ta) = 0xFFEF) ∧
  ((fieldHi .pol, fieldLo .pol, fieldWidth .pol) = (3, 3, 1) ∧ fieldValueMask .pol = 0x0001 ∧
    fieldMask .pol = 0x0008 ∧ ~~~(fieldMask .pol) = 0xFFF7) ∧
  (∀ c v : Word, (Instr.packOf c v .mode).opsel = 0 ∧ (Instr.packOf c v .rate).opsel = 1 ∧
    (Instr.packOf c v .avg).opsel = 2 ∧ (Instr.packOf c v .ta).opsel = 3 ∧ (Instr.packOf c v .pol).opsel = 4) ∧
  (∀ f g : CfgField, f ≠ g → fieldMask f &&& fieldMask g = 0) ∧
  fieldMask .mode ||| fieldMask .rate ||| fieldMask .avg ||| fieldMask .ta ||| fieldMask .pol = 0x0FF8

/-- R113: what `PACK.f` inserted is what `UNPACK.f` extracts, masked to the field. -/
def Obligations.UnpackOfPackIsTheMaskedValue : Prop :=
  ∀ (f : CfgField) (c v : Word),
    unpack f (pack f c v) = v &&& fieldValueMask f ∧
    (v.toNat ≤ 2 ^ fieldWidth f - 1 → unpack f (pack f c v) = v)

/-- R114: every bit outside the field is kept, the unnamed bits by every `PACK.f`. -/
def Obligations.PackKeepsEveryOtherBit : Prop :=
  ∀ (f : CfgField) (c v : Word),
    pack f c v &&& ~~~(fieldMask f) = c &&& ~~~(fieldMask f) ∧
    pack f c v &&& 0xF007 = c &&& 0xF007

/-- R115: re-insertion is the identity, and the last insertion into a field wins. -/
def Obligations.ReinsertionIsIdentityAndLastInsertionWins : Prop :=
  ∀ (f : CfgField) (c u v : Word),
    pack f c (unpack f c) = c ∧ pack f (pack f c u) v = pack f c v

/-- R116: fields are independent of one another. -/
def Obligations.FieldsAreIndependent : Prop :=
  ∀ (f g : CfgField) (c u v : Word), f ≠ g →
    unpack g (pack f c v) = unpack g c ∧
    pack f (pack g c u) v = pack g (pack f c v) u

/-- R117: a word is its five raw field values and its unnamed bits, and every such tuple is one word. -/
def Obligations.WordsDecomposeIntoFields : Prop :=
  (∀ c : Word,
    c = (c &&& 0xF007) ||| (unpack .mode c <<< 10) ||| (unpack .rate c <<< 7) ||| (unpack .avg c <<< 5) |||
      (unpack .ta c <<< 4) ||| (unpack .pol c <<< 3)) ∧
  (∀ u m r a t p : Word, u &&& 0xF007 = u → m.toNat ≤ 3 → r.toNat ≤ 7 → a.toNat ≤ 3 → t.toNat ≤ 1 → p.toNat ≤ 1 →
    ∃ c : Word, (c &&& 0xF007 = u ∧ unpack .mode c = m ∧ unpack .rate c = r ∧ unpack .avg c = a ∧ unpack .ta c = t ∧
        unpack .pol c = p) ∧
      ∀ d : Word, (d &&& 0xF007 = u ∧ unpack .mode d = m ∧ unpack .rate d = r ∧ unpack .avg d = a ∧
        unpack .ta d = t ∧ unpack .pol d = p) → d = c)

/-- R30, R79, R85 (a): the raw value of each named setting; every raw value a field can hold is one named setting of
that field; a typed setter call is the setter of that field with that raw value. -/
def Obligations.EveryRawValueIsANamedSetting : Prop :=
  (settingRaw (.mode .continuous) = 0 ∧ settingRaw (.mode .shutdown) = 1 ∧ settingRaw (.mode .continuousAlt) = 2 ∧
    settingRaw (.mode .oneShot) = 3) ∧
  (∀ k : Fin 8, (settingRaw (.rate k)).toNat = k.val) ∧
  (settingRaw (.avg .none) = 0 ∧ settingRaw (.avg .avg8) = 1 ∧ settingRaw (.avg .avg32) = 2 ∧
    settingRaw (.avg .avg64) = 3) ∧
  (settingRaw (.ta .alert) = 0 ∧ settingRaw (.ta .therm) = 1) ∧
  (settingRaw (.pol .activeLow) = 0 ∧ settingRaw (.pol .activeHigh) = 1) ∧
  (∀ (f : CfgField) (c : Word), ∃ v : Setting, settingField v = f ∧ settingRaw v = unpack f c) ∧
  (∀ v w : Setting, settingField v = settingField w → settingRaw v = settingRaw w → v = w) ∧
  (∀ m : ModeSetting, typedSet (.mode m) = .setMode (settingRaw (.mode m))) ∧
  (∀ k : Fin 8, typedSet (.rate k) = .setRate (settingRaw (.rate k))) ∧
  (∀ m : AvgSetting, typedSet (.avg m) = .setAvg (settingRaw (.avg m))) ∧
  (∀ m : TaSetting, typedSet (.ta m) = .setTa (settingRaw (.ta m))) ∧
  (∀ m : PolSetting, typedSet (.pol m) = .setPol (settingRaw (.pol m)))

/-! ### The temperature scaler -/

/-- R86: the binary32 images the spec writes out denote the values it gives. -/
def Obligations.Binary32ImagesOfTheExamples : Prop :=
  f32Val 0x00000000#32 = 0 ∧ f32Val 0x3F800000#32 = 1 ∧ f32Val 0xBF800000#32 = -1 ∧ f32Val 0x42000000#32 = 32 ∧
  f32Val 0x42C80000#32 = 100 ∧ f32Val 0x43540000#32 = 212 ∧ f32Val 0x3C000000#32 = 1 / 128

/-- R131: `RAW2C` delivers, for every code, the finite element of the format whose value is `sint16(code) / 128`
exactly: +0.0 for code 0, never -0.0 and never a subnormal; nothing else of the machine changes. -/
def Obligations.Raw2cIsExact : Prop :=
  ∀ (code : Word) (s : State), (Instr.raw2c code).opsel = 0x10 ∧
    ∃ x : Real32,
      exec (.raw2c code) s = .next { s with outputs := ports none none none (some x) } ∧
      f32Finite x = true ∧ f32Val x = (sint16 code : ℚ) / 128 ∧
      (code = 0 → x = 0x00000000#32) ∧ x ≠ 0x80000000#32 ∧ (x = 0x00000000#32 ∨ f32Exp x ≠ 0)

/-- R132: `C2RAW` truncates `val(x) * 128` toward zero where the result fits; elsewhere it delivers some word, which
nothing here constrains (decision D8; the model's free value of log 12). The range is the open interval the rule gives. -/
def Obligations.C2rawTruncatesTowardZero : Prop :=
  ∀ (x : Real32) (s : State), (Instr.c2raw x).opsel = 0x11 ∧
    (f32Finite x = true → -32768 ≤ truncQ (f32Val x * 128) → truncQ (f32Val x * 128) ≤ 32767 →
      exec (.c2raw x) s =
        .next { s with outputs := ports none none (some (u16 (truncQ (f32Val x * 128)))) none }) ∧
    (∃ w : Word, exec (.c2raw x) s = .next { s with outputs := ports none none (some w) none }) ∧
    ((-32768 ≤ truncQ (f32Val x * 128) ∧ truncQ (f32Val x * 128) ≤ 32767) ↔
      (-(32769 / 128 : ℚ) < f32Val x ∧ f32Val x < 256))

/-- R133, with P1 to P3 of R134: one function of the operand gives `C2F`, fixed at +0.0 and 100.0, and `RAW2F` is it
after `RAW2C`; nothing else of the machine changes. Both named candidates map -40.0 to -40.0. -/
def Obligations.FahrenheitIsOneFunctionWithItsTwoPoints : Prop :=
  (∃ g : Real32 → Real32,
    g 0x00000000#32 = 0x42000000#32 ∧ g 0x42C80000#32 = 0x43540000#32 ∧
    (∀ (x : Real32) (s : State),
      exec (.c2f x) s = .next { s with outputs := ports none none none (some (g x)) } ∧
      (Instr.c2f x).opsel = 0x12) ∧
    (∀ (code : Word) (s : State), (Instr.raw2f code).opsel = 0x13 ∧
      ∃ x : Real32, exec (.raw2c code) s = .next { s with outputs := ports none none none (some x) } ∧
        exec (.raw2f code) s = .next { s with outputs := ports none none none (some (g x)) })) ∧
  c2fSingle 0xC2200000#32 = some 0xC2200000#32 ∧ c2fDouble 0xC2200000#32 = some 0xC2200000#32

/-- R134: both named candidates take the two fixed points and -40.0, agree at -256.0 and differ at code 0x7FFF as the
spec's vectors say (R135). -/
def Obligations.NamedCandidatesTakeTheGivenPoints : Prop :=
  (c2fSingle 0x00000000#32 = some 0x42000000#32 ∧ c2fDouble 0x00000000#32 = some 0x42000000#32) ∧
  (c2fSingle 0x42C80000#32 = some 0x43540000#32 ∧ c2fDouble 0x42C80000#32 = some 0x43540000#32) ∧
  (c2fSingle (raw2c 0xEC00) = some (raw2c 0xEC00) ∧ c2fDouble (raw2c 0xEC00) = some (raw2c 0xEC00)) ∧
  (c2fSingle (raw2c 0x8000) = some 0xC3D66666#32 ∧ c2fDouble (raw2c 0x8000) = some 0xC3D66666#32) ∧
  (c2fSingle (raw2c 0x7FFF) = some 0x43F66499#32 ∧ c2fDouble (raw2c 0x7FFF) = some 0x43F6649A#32)

/-- R136: a code survives `RAW2C` and then `C2RAW`; in the other direction an in-range real comes back between itself
and 0, less than one count away. -/
def Obligations.ScalerRoundTrip : Prop :=
  (∀ (w : Word) (s : State), ∃ x : Real32,
    exec (.raw2c w) s = .next { s with outputs := ports none none none (some x) } ∧
    exec (.c2raw x) s = .next { s with outputs := ports none none (some w) none }) ∧
  (∀ x : Real32, inCodeRange x →
    |f32Val x - f32Val (raw2c (c2raw x))| < 1 / 128 ∧
    ((0 ≤ f32Val (raw2c (c2raw x)) ∧ f32Val (raw2c (c2raw x)) ≤ f32Val x) ∨
      (f32Val x ≤ f32Val (raw2c (c2raw x)) ∧ f32Val (raw2c (c2raw x)) ≤ 0)))

/-- R137: the fixed points the document gives, as runs of the operations. -/
def Obligations.FixedPointsOfTheScaler : Prop :=
  ∀ s : State,
    exec (.raw2c 0x0000) s = .next { s with outputs := ports none none none (some 0x00000000#32) } ∧
    exec (.raw2c 0x0080) s = .next { s with outputs := ports none none none (some 0x3F800000#32) } ∧
    exec (.raw2c 0xFF80) s = .next { s with outputs := ports none none none (some 0xBF800000#32) } ∧
    exec (.c2f 0x00000000#32) s = .next { s with outputs := ports none none none (some 0x42000000#32) } ∧
    exec (.c2f 0x42C80000#32) s = .next { s with outputs := ports none none none (some 0x43540000#32) }

/-- R138: `RAW2C` is strictly increasing in the signed code; `C2RAW` is non-decreasing in range, odd, and maps the open
interval of one count around 0 to 0. -/
def Obligations.ScalerOrderAndSign : Prop :=
  (∀ a b : Word, sint16 a < sint16 b ↔ f32Val (raw2c a) < f32Val (raw2c b)) ∧
  (∀ x y : Real32, inCodeRange x → inCodeRange y → f32Val x ≤ f32Val y → sint16 (c2raw x) ≤ sint16 (c2raw y)) ∧
  (∀ x y : Real32, inCodeRange x → inCodeRange y → f32Val y = -f32Val x → c2raw x ≠ 0x8000 →
    c2raw y = u16 (-sint16 (c2raw x))) ∧
  (∀ x : Real32, f32Finite x = true → |f32Val x| < 1 / 128 → c2raw x = 0)

/-- R20: the result of a Layer 0 operation depends on its operands and on nothing else, and it changes nothing but the
output ports. -/
def Obligations.LayerZeroDependsOnOperandsAlone : Prop :=
  ∀ i : Instr, i.layer = 0 → ∃ o : Outputs, o.status = none ∧ ∀ s : State, exec i s = .next { s with outputs := o }

/-! ### The sensor register space and the transport -/

/-- R28, R38: the register map, and that no other address has a register. -/
def Obligations.RegisterMapIsAsGiven : Prop :=
  (regAddr .temp = 0x00 ∧ regAddr .cfg = 0x01 ∧ regAddr .high = 0x02 ∧ regAddr .low = 0x03 ∧ regAddr .unlock = 0x04 ∧
    regAddr .scr1 = 0x05 ∧ regAddr .scr2 = 0x06 ∧ regAddr .offset = 0x07 ∧ regAddr .scr3 = 0x08 ∧
    regAddr .id = 0x0F) ∧
  (∀ (b : Byte) (a : SReg), regAt b = some a ↔ regAddr a = b)

/-- R46: a completed register read is one `writeThenRead` of the address for two bytes, whose value is
`b0 * 256 + b1`; a completed register write is one `write` of the address and the two halves of the value, the high one
first; what is sent for a value is received as it. -/
def Obligations.MostSignificantByteFirst : Prop :=
  (∀ (a : SReg) (s : State), s.event.answer = .done →
    ∃ (b0 b1 : Byte) (w : Word) (t : State), memRead a s = .done w t ∧ w.toNat = b0.toNat * 256 + b1.toNat ∧
      w = (s.found a).get a ∧
      t.trace = s.trace ++ [.writeThenRead s.busRef s.devAddr [regAddr a] 2 (some [b0, b1])]) ∧
  (∀ (a : SReg) (v : Word) (s : State), s.event.answer = .done →
    ∃ (hi lo : Byte) (t : State), memWrite a v s = .done () t ∧ hi.toNat = v.toNat / 256 ∧ lo.toNat = v.toNat % 256 ∧
      t.trace = s.trace ++ [.write s.busRef s.devAddr [regAddr a, hi, lo] true]) ∧
  (∀ b0 b1 : Byte, (wordOfBytes b0 b1).toNat = b0.toNat * 256 + b1.toNat) ∧
  (∀ v : Word, wordOfBytes (hiByte v) (loByte v) = v)

/-- R51: the reference sensor. A read finds what its table holds, no transaction fails, a write sets the five plain
registers, and a slot only while bit 15 of `UNLOCK` is 1; nothing else changes the table. -/
def Obligations.ReferenceSensorIsATable : Prop :=
  (∀ (s : State) (a : SReg), s.onReference →
    s.event.answer = .done ∧ s.found a = s.sensor) ∧
  (∀ (n : Nat) (a b : SReg) (v : Word) (x : Sensor),
    (x.written .reference n a v).get b =
      if b = a ∧ (a = .cfg ∨ a = .high ∨ a = .low ∨ a = .unlock ∨ a = .offset ∨
          ((a = .scr1 ∨ a = .scr2 ∨ a = .scr3) ∧ x.unlock.getLsbD 15 = true))
      then v else x.get b)

/-- R49, R35, R278, R39: the oracle's registers after a completed write. `CFG` (but for the reset sentinel), `HIGH`,
`LOW`, `UNLOCK` and `OFFSET` are replaced whole, and so is a slot while the sensor is unlocked, settled and programming
no slot; no other register changes. Every other write to a slot changes no other register. The marks: a slot write opens
the window of that slot, an unlock owes the settle time, waiting runs both down and changes no register. A transaction
before which the environment does nothing finds the sensor as it was, unless it falls in an open window. The model's
choices: the reset sentinel keeps the slots and `ID` (log 9, DEDUCED); a failed write other than of that sentinel changes
no other register (log 8, DEDUCED); the region of an open window ends with the slots and `UNLOCK` (log 10, DEDUCED: R274
does not define it beyond those, N10); the open window among the conditions on a slot (log 34, DESIGN CHOICE); writes right
after a reset command act as any other (log 35, DESIGN CHOICE). -/
def Obligations.OracleWritesReplaceTheRegister : Prop :=
  (∀ (n : Nat) (a b : SReg) (v : Word) (x : Sensor),
    ((a = .cfg ∧ v ≠ 0x8000) ∨ a = .high ∨ a = .low ∨ a = .unlock ∨ a = .offset ∨
      ((a = .scr1 ∨ a = .scr2 ∨ a = .scr3) ∧ x.unlock.getLsbD 15 = true ∧ x.settle = 0 ∧ x.prog = none)) →
    (x.written .oracle n a v).get b = if b = a then v else x.get b) ∧
  (∀ (n : Nat) (a b : SReg) (v : Word) (x : Sensor), (a = .scr1 ∨ a = .scr2 ∨ a = .scr3) → b ≠ a →
    (x.written .oracle n a v).get b = x.get b) ∧
  (∀ (n : Nat) (b : SReg) (x : Sensor), (b = .scr1 ∨ b = .scr2 ∨ b = .scr3 ∨ b = .id) →
    (x.written .oracle n .cfg 0x8000).get b = x.get b) ∧
  (∀ (n : Nat) (a b : SReg) (v : Word) (x : Sensor), b ≠ a → ¬(a = .cfg ∧ v = 0x8000) →
    (x.writeFailed .oracle n a v).get b = x.get b) ∧
  (∀ (k : SensorKind) (n : Nat) (a : SReg) (v : Word) (x : Sensor),
    ((a = .scr1 ∨ a = .scr2 ∨ a = .scr3) → (x.written k n a v).prog = some (a, 10)) ∧
    (v.getLsbD 15 = true → (x.written k n .unlock v).settle = 2)) ∧
  (∀ (m : Nat) (b : SReg) (x : Sensor), (x.elapse m).get b = x.get b ∧ (x.elapse m).settle = x.settle - m ∧
    ∀ (a : SReg) (w : Nat), x.prog = some (a, w) →
      (x.elapse m).prog = if w ≤ m then none else some (a, w - m)) ∧
  (∀ (a : SReg) (s : State), s.kind = .oracle → s.event.changes = [] →
    (s.sensor.prog = none ∨ (a ≠ .unlock ∧ a ≠ .scr1 ∧ a ≠ .scr2 ∧ a ≠ .scr3)) → s.found a = s.sensor)

/-- R50: the sensor is an oracle. For every register and every word there is an environment under which a read of it
answers that word, and one under which it fails; a write can succeed and can fail. (No slot is being programmed: R274.) -/
def Obligations.TheOracleMayAnswerAnything : Prop :=
  ∀ (a : SReg) (v w : Word) (s : State), s.isReady → s.kind = .oracle → s.sensor.prog = none →
    (∃ (l : List BusEvent) (t : State), exec (.rdreg (regAddr a)) { s with script := l } = .next t ∧
      t.outputs = ports (some .ok) (some w) none none) ∧
    (∃ (l : List BusEvent) (t : State), exec (.rdreg (regAddr a)) { s with script := l } = .next t ∧
      t.outputs.status = some .transportError) ∧
    (wrregAdmits a = true →
      (∃ (l : List BusEvent) (t : State), exec (.wrreg (regAddr a) v) { s with script := l } = .next t ∧
        t.outputs.status = some .ok) ∧
      (∃ (l : List BusEvent) (t : State), exec (.wrreg (regAddr a) v) { s with script := l } = .next t ∧
        t.outputs.status = some .transportError))

/-! ### Raw access, configuration accessors, reset write -/

/-- R160: `RDREG` of a register of the map is one read of it; of any other address it is refused. -/
def Obligations.RdregReadsTheNamedRegister : Prop :=
  (∀ a : SReg, ReadsInto (.rdreg (regAddr a)) a (fun w => ports (some .ok) (some w) none none)) ∧
  (∀ (addr : Byte) (s : State), s.isReady → 0x08 < addr.toNat → addr.toNat ≠ 0x0F →
    exec (.rdreg addr) s = .refused (.readAddress addr)) ∧
  (∀ addr : Byte, (Instr.rdreg addr).opsel = 0x30)

/-- R161: `WRREG` to `CFG`, `HIGH`, `LOW`, `UNLOCK` or `OFFSET` is one write of the whole register; to any other
address it is refused. -/
def Obligations.WrregWritesTheAdmittedRegisters : Prop :=
  (∀ v : Word, WritesOnce (.wrreg 0x01 v) .cfg v ∧ WritesOnce (.wrreg 0x02 v) .high v ∧
    WritesOnce (.wrreg 0x03 v) .low v ∧ WritesOnce (.wrreg 0x04 v) .unlock v ∧ WritesOnce (.wrreg 0x07 v) .offset v) ∧
  (∀ (addr : Byte) (v : Word) (s : State), s.isReady →
    addr ≠ 0x01 → addr ≠ 0x02 → addr ≠ 0x03 → addr ≠ 0x04 → addr ≠ 0x07 →
    exec (.wrreg addr v) s = .refused (.writeAddress addr)) ∧
  (∀ (addr : Byte) (v : Word), (Instr.wrreg addr v).opsel = 0x31)

/-- R162 with R163 to R167: each setter reads `CFG`, inserts its field and writes `CFG` back, in exactly two
transactions; the three outcomes of the pair are given whole. -/
def Obligations.SettersReadInsertAndWriteBack : Prop :=
  ∀ v : Word,
    (UpdatesCfg (.setMode v) (fun c => (c &&& 0xF3FF) ||| ((v <<< 10) &&& 0x0C00)) ∧ (Instr.setMode v).opsel = 0x20) ∧
    (UpdatesCfg (.setRate v) (fun c => (c &&& 0xFC7F) ||| ((v <<< 7) &&& 0x0380)) ∧ (Instr.setRate v).opsel = 0x21) ∧
    (UpdatesCfg (.setAvg v) (fun c => (c &&& 0xFF9F) ||| ((v <<< 5) &&& 0x0060)) ∧ (Instr.setAvg v).opsel = 0x22) ∧
    (UpdatesCfg (.setTa v) (fun c => (c &&& 0xFFEF) ||| ((v <<< 4) &&& 0x0010)) ∧ (Instr.setTa v).opsel = 0x23) ∧
    (UpdatesCfg (.setPol v) (fun c => (c &&& 0xFFF7) ||| ((v <<< 3) &&& 0x0008)) ∧ (Instr.setPol v).opsel = 0x24)

/-- R168 with R169 to R173: each getter makes one read of `CFG` and delivers its field. -/
def Obligations.GettersReadAndExtract : Prop :=
  (ReadsInto .getMode .cfg (fun c => ports (some .ok) (some ((c >>> 10) &&& 3)) none none) ∧ Instr.getMode.opsel = 0x28) ∧
  (ReadsInto .getRate .cfg (fun c => ports (some .ok) (some ((c >>> 7) &&& 7)) none none) ∧ Instr.getRate.opsel = 0x29) ∧
  (ReadsInto .getAvg .cfg (fun c => ports (some .ok) (some ((c >>> 5) &&& 3)) none none) ∧ Instr.getAvg.opsel = 0x2A) ∧
  (ReadsInto .getTa .cfg (fun c => ports (some .ok) (some ((c >>> 4) &&& 1)) none none) ∧ Instr.getTa.opsel = 0x2B) ∧
  (ReadsInto .getPol .cfg (fun c => ports (some .ok) (some ((c >>> 3) &&& 1)) none none) ∧ Instr.getPol.opsel = 0x2C)

/-- R175, R271: `RESET` is one blind write of 0x8000 to `CFG` and changes no state of the block. -/
def Obligations.ResetIsOneBlindWrite : Prop :=
  WritesOnce .resetSensor .cfg 0x8000 ∧ Instr.resetSensor.opsel = 0x39

/-- R174: on the reference sensor a setter followed by a getter shows the value masked to the field, and leaves every
other field as it was; under the oracle neither holds: the second read may be of any word. -/
def Obligations.ReferenceSetThenGetShowsTheField : Prop :=
  (∀ (f g : CfgField) (v : Word) (s : State), s.isReady → s.onReference →
    ∃ t u u' : State,
      exec (Instr.setOf v f) s = .next t ∧ exec (Instr.getOf f) t = .next u ∧ exec (Instr.getOf g) t = .next u' ∧
      t.outputs.status = some .ok ∧
      u.outputs = ports (some .ok) (some (v &&& fieldValueMask f)) none none ∧
      (g ≠ f → u'.outputs = ports (some .ok) (some (unpack g s.sensor.cfg)) none none)) ∧
  (∀ (f g : CfgField) (v w : Word) (s : State), s.isReady → s.kind = .oracle →
    ∃ (l : List BusEvent) (t u : State),
      exec (Instr.setOf v f) { s with script := l } = .next t ∧ exec (Instr.getOf g) t = .next u ∧
      t.outputs.status = some .ok ∧ u.outputs = ports (some .ok) (some (unpack g w)) none none)

/-- R276: what another agent writes to `CFG` between a setter's read and its write is lost, and `OK` is reported. That
the sensor of this statement is the reference sensor but for a script in which another master writes is the model's
choice (log 31): R51 itself has nothing else change its table. -/
def Obligations.LostUpdateIsSilent : Prop :=
  ∀ (f : CfgField) (v w : Word) (s : State), s.isReady → s.kind = .reference →
    s.eventAt s.pos = BusEvent.quiet →
    s.eventAt (s.pos + 1) = { changes := [(.cfg, w)], answer := .done } →
    ∃ t : State, exec (Instr.setOf v f) s = .next t ∧ t.outputs.status = some .ok ∧
      t.sensor.cfg = pack f s.sensor.cfg v

/-! ### Temperature-format accessors and identity -/

/-- R190, R192, R194, R196: each reads its register once and delivers the word scaled by `RAW2C`. -/
def Obligations.TemperatureReadsAreScaled : Prop :=
  (ReadsInto .getTemp .temp (fun w => ports (some .ok) none none (some (raw2c w))) ∧ Instr.getTemp.opsel = 0x32) ∧
  (ReadsInto .getHigh .high (fun w => ports (some .ok) none none (some (raw2c w))) ∧ Instr.getHigh.opsel = 0x33) ∧
  (ReadsInto .getLow .low (fun w => ports (some .ok) none none (some (raw2c w))) ∧ Instr.getLow.opsel = 0x35) ∧
  (ReadsInto .getOffset .offset (fun w => ports (some .ok) none none (some (raw2c w))) ∧
    Instr.getOffset.opsel = 0x37)

/-- R191, R193, R195: each makes one write, with no read: of `C2RAW` of its operand where that is in range, and of some
word, a draw, for every operand (R280 (b)). -/
def Obligations.TemperatureWritesAreDirect : Prop :=
  ∀ x : Real32,
    ((inCodeRange x → WritesOnce (.setHigh x) .high (c2raw x)) ∧ WritesSomeWord (.setHigh x) .high ∧
      (Instr.setHigh x).opsel = 0x34) ∧
    ((inCodeRange x → WritesOnce (.setLow x) .low (c2raw x)) ∧ WritesSomeWord (.setLow x) .low ∧
      (Instr.setLow x).opsel = 0x36) ∧
    ((inCodeRange x → WritesOnce (.setOffset x) .offset (c2raw x)) ∧ WritesSomeWord (.setOffset x) .offset ∧
      (Instr.setOffset x).opsel = 0x38)

/-- R197: `GET.ID` is one read of `ID`, the word delivered as read. -/
def Obligations.GetIdReadsTheIdentityAgain : Prop :=
  ReadsInto .getId .id (fun w => ports (some .ok) (some w) none none) ∧ Instr.getId.opsel = 0x3A

/-- R198: on the reference sensor a limit or offset set from an in-range real reads back as the real truncated to a
whole count, which has the value set exactly when that value is a whole number of counts; under the oracle the read may
be of any word. -/
def Obligations.ReferenceSetThenGetTemperature : Prop :=
  (∀ (r : TempReg) (x : Real32) (s : State), s.isReady → s.onReference → inCodeRange x →
    ∃ (t u : State) (y : Real32),
      exec (Instr.setTempOf x r) s = .next t ∧ exec (Instr.getTempOf r) t = .next u ∧
      t.outputs.status = some .ok ∧ u.outputs = ports (some .ok) none none (some y) ∧
      f32Finite y = true ∧ f32Val y = (truncQ (f32Val x * 128) : ℚ) / 128 ∧
      (f32Val y = f32Val x ↔ ∃ n : Int, f32Val x * 128 = (n : ℚ))) ∧
  (∀ (r : TempReg) (x : Real32) (w : Word) (s : State), s.isReady → s.kind = .oracle →
    ∃ (l : List BusEvent) (t u : State),
      exec (Instr.setTempOf x r) { s with script := l } = .next t ∧ exec (Instr.getTempOf r) t = .next u ∧
      t.outputs.status = some .ok ∧ u.outputs = ports (some .ok) none none (some (raw2c w)))

/-! ### Initialisation -/

/-- R210: `BEGIN` whole. It is refused on a handle that is not `Uninitialized` and for an address outside 0x48 to 0x4B.
Otherwise it binds the handle, calls `configure` and makes one probe read of `ID`: an accepted identity makes the handle
`Ready`, any third one `Failed` with `IdentityMismatch`, a failed probe `Failed` with `TransportError`. That it binds
a bus reference too, some one token `b`, the same in every run, is the model's choice (log 20, DEDUCED from R25 and
R270). -/
def Obligations.BeginProbesOnceAndDecides : Prop :=
  ∃ b : Nat, ∀ (a : BitVec 7) (clk : Nat) (pins : Option Nat) (s : State),
    (s.initState ≠ .uninitialized → exec (.beginHandle a clk pins) s = .refused .beginAgain) ∧
    (s.initState = .uninitialized → a ≠ 0x48 → a ≠ 0x49 → a ≠ 0x4A → a ≠ 0x4B →
      exec (.beginHandle a clk pins) s = .refused (.beginAddress a)) ∧
    (s.initState = .uninitialized → (a = 0x48 ∨ a = 0x49 ∨ a = 0x4A ∨ a = 0x4B) →
      (s.event.answer = .done → ((s.found .id).id = Config.idA ∨ (s.found .id).id = Config.idB) →
        exec (.beginHandle a clk pins) s = .next { s with
          outputs := ports (some .ok) none none none
          initState := .ready
          devAddr := a
          busRef := b
          sensor := s.found .id
          pos := s.pos + 1
          trace := s.trace ++ [.configure b clk pins,
            .writeThenRead b a [0x0F] 2 (some [hiByte (s.found .id).id, loByte (s.found .id).id])] }) ∧
      (s.event.answer = .done → (s.found .id).id ≠ Config.idA → (s.found .id).id ≠ Config.idB →
        ∃ o : Outputs, o.status = some .identityMismatch ∧
          exec (.beginHandle a clk pins) s = .next { s with
            outputs := o
            draws := s.draws + 1
            initState := .failed
            devAddr := a
            busRef := b
            sensor := s.found .id
            pos := s.pos + 1
            trace := s.trace ++ [.configure b clk pins,
              .writeThenRead b a [0x0F] 2 (some [hiByte (s.found .id).id, loByte (s.found .id).id])] }) ∧
      (s.event.answer = .failed →
        ∃ o : Outputs, o.status = some .transportError ∧
          exec (.beginHandle a clk pins) s = .next { s with
            outputs := o
            draws := s.draws + 1
            initState := .failed
            devAddr := a
            busRef := b
            sensor := s.found .id
            pos := s.pos + 1
            trace := s.trace ++ [.configure b clk pins, .writeThenRead b a [0x0F] 2 none] })) ∧
    (Instr.beginHandle a clk pins).opsel = 0x40

/-- R211: the transitions of `INIT_STATE` from one operation boundary to the next, with the `STATUS` of each: `Ready`
and `Failed` are terminal, and only `BEGIN` leaves `Uninitialized`. -/
def Obligations.InitStateMovesOnlyByBegin : Prop :=
  ∀ (i : Instr) (s t : State), exec i s = .next t →
    (s.initState ≠ .uninitialized → t.initState = s.initState) ∧
    (s.initState = .uninitialized →
      (i.isBegin = false ∧ t.initState = .uninitialized) ∨
      (i.isBegin = true ∧
        ((t.initState = .ready ∧ t.outputs.status = some .ok) ∨
          (t.initState = .failed ∧
            (t.outputs.status = some .identityMismatch ∨ t.outputs.status = some .transportError)))))

/-! ### Scratch slots -/

/-- R212: `WRSCRATCH` whole, on a ready handle. An address that is no slot: `InvalidRegister`, no bus I/O. A slot: unlock
write, wait 2, data write, wait 10, lock write, `OK`, `Locked`; or the trace stops at the write that fails, with
`TransportError` and `SEQ_STATE` at the step reached (R214: nothing is rolled back, no lock is attempted). -/
def Obligations.WrscratchRunsItsSteps : Prop :=
  (∀ (addr : Byte) (v : Word), (Instr.wrscratch addr v).opsel = 0x41) ∧
  (∀ (addr : Byte) (v : Word) (s : State), s.isReady → addr ≠ 0x05 → addr ≠ 0x06 → addr ≠ 0x08 →
    ∃ o : Outputs, o.status = some .invalidRegister ∧
      exec (.wrscratch addr v) s = .next { s with outputs := o, draws := s.draws + 1 }) ∧
  (∀ (slot : SReg) (v : Word) (s : State), s.isReady → (slot = .scr1 ∨ slot = .scr2 ∨ slot = .scr3) →
    let x1 := ((s.found .unlock).written s.kind s.pos .unlock 0x8000).elapse 2
    let y1 := x1.arrive s.kind (s.pos + 1) (s.eventAt (s.pos + 1)) slot
    let x2 := (y1.written s.kind (s.pos + 1) slot v).elapse 10
    let y2 := x2.arrive s.kind (s.pos + 2) (s.eventAt (s.pos + 2)) .unlock
    (s.completes 3 →
      exec (.wrscratch (regAddr slot) v) s = .next { s with
        outputs := ports (some .ok) none none none
        seqState := .locked
        sensor := y2.written s.kind (s.pos + 2) .unlock 0x0000
        pos := s.pos + 3
        trace := s.trace ++ [.write s.busRef s.devAddr [0x04, 0x80, 0x00] true, .wait 2,
          .write s.busRef s.devAddr [regAddr slot, hiByte v, loByte v] true, .wait 10,
          .write s.busRef s.devAddr [0x04, 0x00, 0x00] true] }) ∧
    ((s.eventAt s.pos).answer = .failed →
      ∃ o : Outputs, o.status = some .transportError ∧
        exec (.wrscratch (regAddr slot) v) s = .next { s with
          outputs := o
          draws := s.draws + 1
          seqState := .unlocking
          sensor := (s.found .unlock).writeFailed s.kind s.pos .unlock 0x8000
          pos := s.pos + 1
          trace := s.trace ++ [.write s.busRef s.devAddr [0x04, 0x80, 0x00] false] }) ∧
    ((s.eventAt s.pos).answer = .done → (s.eventAt (s.pos + 1)).answer = .failed →
      ∃ o : Outputs, o.status = some .transportError ∧
        exec (.wrscratch (regAddr slot) v) s = .next { s with
          outputs := o
          draws := s.draws + 1
          seqState := .writing
          sensor := y1.writeFailed s.kind (s.pos + 1) slot v
          pos := s.pos + 2
          trace := s.trace ++ [.write s.busRef s.devAddr [0x04, 0x80, 0x00] true, .wait 2,
            .write s.busRef s.devAddr [regAddr slot, hiByte v, loByte v] false] }) ∧
    ((s.eventAt s.pos).answer = .done → (s.eventAt (s.pos + 1)).answer = .done →
      (s.eventAt (s.pos + 2)).answer = .failed →
      ∃ o : Outputs, o.status = some .transportError ∧
        exec (.wrscratch (regAddr slot) v) s = .next { s with
          outputs := o
          draws := s.draws + 1
          seqState := .locking
          sensor := y2.writeFailed s.kind (s.pos + 2) .unlock 0x0000
          pos := s.pos + 3
          trace := s.trace ++ [.write s.busRef s.devAddr [0x04, 0x80, 0x00] true, .wait 2,
            .write s.busRef s.devAddr [regAddr slot, hiByte v, loByte v] true, .wait 10,
            .write s.busRef s.devAddr [0x04, 0x00, 0x00] false] }))

/-- R215: an address that is no slot makes `WRSCRATCH` and `RDSCRATCH` report `InvalidRegister`, whatever the transport
would do, with no transaction, no wait and no state change; and no other address does. -/
def Obligations.InvalidSlotMakesNoBusTraffic : Prop :=
  (∀ (addr : Byte) (v : Word) (s : State), s.isReady → addr ≠ 0x05 → addr ≠ 0x06 → addr ≠ 0x08 →
    (∃ o : Outputs, o.status = some .invalidRegister ∧
      exec (.wrscratch addr v) s = .next { s with outputs := o, draws := s.draws + 1 }) ∧
    (∃ o : Outputs, o.status = some .invalidRegister ∧
      exec (.rdscratch addr) s = .next { s with outputs := o, draws := s.draws + 1 })) ∧
  (∀ (i : Instr) (addr : Byte) (s t : State), s.isReady → (i = .rdscratch addr ∨ ∃ v, i = .wrscratch addr v) →
    exec i s = .next t →
    (t.outputs.status = some .invalidRegister ↔ (addr ≠ 0x05 ∧ addr ≠ 0x06 ∧ addr ≠ 0x08)))

/-- R213: `RDSCRATCH` of a slot is one plain read of it; of any other address it is `InvalidRegister`, no bus I/O. -/
def Obligations.RdscratchIsAPlainRead : Prop :=
  (∀ slot : SReg, (slot = .scr1 ∨ slot = .scr2 ∨ slot = .scr3) →
    ReadsInto (.rdscratch (regAddr slot)) slot (fun w => ports (some .ok) (some w) none none)) ∧
  (∀ (addr : Byte) (s : State), s.isReady → addr ≠ 0x05 → addr ≠ 0x06 → addr ≠ 0x08 →
    ∃ o : Outputs, o.status = some .invalidRegister ∧
      exec (.rdscratch addr) s = .next { s with outputs := o, draws := s.draws + 1 }) ∧
  (∀ addr : Byte, (Instr.rdscratch addr).opsel = 0x42)

/-- R216: the transitions of `SEQ_STATE` inside the sequence: each phase ends where its successful write and its wait
leave it, or at its own step where the write failed; the unlock, the data and the lock write stand in the trace. -/
def Obligations.SequencerPhasesMoveAsListed : Prop :=
  ∀ (slot : SReg) (v : Word) (s t : State),
    (unlockPhase s = .done () t → t.seqState = .unlocked ∧
      t.trace = s.trace ++ [.write s.busRef s.devAddr (writeFrame .unlock unlockSentinel) true, .wait 2]) ∧
    (unlockPhase s = .failed t → t.seqState = .unlocking ∧
      t.trace = s.trace ++ [.write s.busRef s.devAddr (writeFrame .unlock unlockSentinel) false]) ∧
    (programPhase slot v s = .done () t → t.seqState = .settling ∧
      t.trace = s.trace ++ [.write s.busRef s.devAddr (writeFrame slot v) true, .wait 10]) ∧
    (programPhase slot v s = .failed t → t.seqState = .writing ∧
      t.trace = s.trace ++ [.write s.busRef s.devAddr (writeFrame slot v) false]) ∧
    (lockPhase s = .done () t → t.seqState = .locked ∧
      t.trace = s.trace ++ [.write s.busRef s.devAddr (writeFrame .unlock lockSentinel) true]) ∧
    (lockPhase s = .failed t → t.seqState = .locking ∧
      t.trace = s.trace ++ [.write s.busRef s.devAddr (writeFrame .unlock lockSentinel) false])

/-- R214, R274, R275: a `WRSCRATCH` that completes on a ready handle, from any state of the sequencer, leaves the sensor
locked, with no unlock settling and no programming window open; and where no window was open before and nobody else
changed the sensor during the data and the lock write, the slot holds the value (R35, R278), on the oracle too. That another master's slot write or unlock before the first write
opens no window and owes no settle time is the model's choice (log 36). -/
def Obligations.CompleteWrscratchLeavesTheSensorLocked : Prop :=
  (∀ (addr : Byte) (v : Word) (s t : State), s.isReady → exec (.wrscratch addr v) s = .next t →
    t.outputs.status = some .ok →
    t.seqState = .locked ∧ t.sensor.unlock = 0x0000 ∧ t.sensor.settle = 0 ∧ t.sensor.prog = none) ∧
  (∀ (slot : SReg) (v : Word) (s : State), s.isReady → (slot = .scr1 ∨ slot = .scr2 ∨ slot = .scr3) →
    s.completes 3 → s.sensor.prog = none →
    (s.eventAt (s.pos + 1)).changes = [] → (s.eventAt (s.pos + 2)).changes = [] →
    ∃ t : State, exec (.wrscratch (regAddr slot) v) s = .next t ∧ t.outputs.status = some .ok ∧
      t.sensor.get slot = v)

/-- R212, R213: on the reference sensor what `WRSCRATCH` wrote to a slot is what `RDSCRATCH` reads, and the other
registers are as they were but for `UNLOCK`, which is locked. -/
def Obligations.ReferenceScratchReadsBack : Prop :=
  ∀ (slot : SReg) (v : Word) (s : State), s.isReady → s.onReference → (slot = .scr1 ∨ slot = .scr2 ∨ slot = .scr3) →
    ∃ t u : State,
      exec (.wrscratch (regAddr slot) v) s = .next t ∧ exec (.rdscratch (regAddr slot)) t = .next u ∧
      t.outputs.status = some .ok ∧ u.outputs = ports (some .ok) (some v) none none ∧ u.sensor.unlock = 0x0000 ∧
      ∀ b : SReg, b ≠ slot → b ≠ .unlock → u.sensor.get b = s.sensor.get b

/-! ### The machine as a whole -/

/-- R22, R52: a step serves the next request whole: it is `exec` of the decoded operation at the state without that
request; with no request presented nothing happens (log 1, the model's choice). -/
def Obligations.StepRunsTheDecodedOperation : Prop :=
  (∀ (s : State) (r : Request) (rest : List Request) (i : Instr), s.requests = r :: rest → decode r = .ok i →
    step s = exec i { s with requests := rest }) ∧
  (∀ s : State, s.requests = [] → step s = .next s)

/-- Words written out from the opcode map (R80) and from R76 decode to the operations they stand for, one of each
family. A table word has no bits for the operand ports: that they are 0 here is the model's choice (log 26). -/
def Obligations.WrittenOutSelectorsDecode : Prop :=
  decodeTableWord 8 0b00000001 = some (.packRate 0 0) ∧ decodeTableWord 8 0b00001100 = some (.unpackPol 0) ∧
  decodeTableWord 8 0b00010001 = some (.c2raw 0) ∧ decodeTableWord 8 0b00100010 = some (.setAvg 0) ∧
  decodeTableWord 8 0b00101011 = some .getTa ∧ decodeTableWord 8 0b00110001 = some (.wrreg 0 0) ∧
  decodeTableWord 8 0b00111010 = some .getId ∧ decodeTableWord 8 0b01000000 = some (.beginHandle 0 0 none) ∧
  decodeTableWord 8 0b01000010 = some (.rdscratch 0) ∧ decodeTableWord 8 0b00000101 = none

/-- R80, R6: the opcode map. Each of the 38 selectors decodes, whatever stands on the ports, to its operation with the
ports of the rule as operands. -/
def Obligations.EverySelectorReadsItsPorts : Prop :=
  ∀ r : Request,
  (r.opsel = 0x00 → decode r = .ok (.packMode r.cur r.val)) ∧
  (r.opsel = 0x01 → decode r = .ok (.packRate r.cur r.val)) ∧
  (r.opsel = 0x02 → decode r = .ok (.packAvg r.cur r.val)) ∧
  (r.opsel = 0x03 → decode r = .ok (.packTa r.cur r.val)) ∧
  (r.opsel = 0x04 → decode r = .ok (.packPol r.cur r.val)) ∧
  (r.opsel = 0x08 → decode r = .ok (.unpackMode r.cur)) ∧
  (r.opsel = 0x09 → decode r = .ok (.unpackRate r.cur)) ∧
  (r.opsel = 0x0A → decode r = .ok (.unpackAvg r.cur)) ∧
  (r.opsel = 0x0B → decode r = .ok (.unpackTa r.cur)) ∧
  (r.opsel = 0x0C → decode r = .ok (.unpackPol r.cur)) ∧
  (r.opsel = 0x10 → decode r = .ok (.raw2c r.code)) ∧
  (r.opsel = 0x11 → decode r = .ok (.c2raw r.rin)) ∧
  (r.opsel = 0x12 → decode r = .ok (.c2f r.rin)) ∧
  (r.opsel = 0x13 → decode r = .ok (.raw2f r.code)) ∧
  (r.opsel = 0x20 → decode r = .ok (.setMode r.val)) ∧
  (r.opsel = 0x21 → decode r = .ok (.setRate r.val)) ∧
  (r.opsel = 0x22 → decode r = .ok (.setAvg r.val)) ∧
  (r.opsel = 0x23 → decode r = .ok (.setTa r.val)) ∧
  (r.opsel = 0x24 → decode r = .ok (.setPol r.val)) ∧
  (r.opsel = 0x28 → decode r = .ok .getMode) ∧
  (r.opsel = 0x29 → decode r = .ok .getRate) ∧
  (r.opsel = 0x2A → decode r = .ok .getAvg) ∧
  (r.opsel = 0x2B → decode r = .ok .getTa) ∧
  (r.opsel = 0x2C → decode r = .ok .getPol) ∧
  (r.opsel = 0x30 → decode r = .ok (.rdreg r.addr)) ∧
  (r.opsel = 0x31 → decode r = .ok (.wrreg r.addr r.val)) ∧
  (r.opsel = 0x32 → decode r = .ok .getTemp) ∧
  (r.opsel = 0x33 → decode r = .ok .getHigh) ∧
  (r.opsel = 0x34 → decode r = .ok (.setHigh r.rin)) ∧
  (r.opsel = 0x35 → decode r = .ok .getLow) ∧
  (r.opsel = 0x36 → decode r = .ok (.setLow r.rin)) ∧
  (r.opsel = 0x37 → decode r = .ok .getOffset) ∧
  (r.opsel = 0x38 → decode r = .ok (.setOffset r.rin)) ∧
  (r.opsel = 0x39 → decode r = .ok .resetSensor) ∧
  (r.opsel = 0x3A → decode r = .ok .getId) ∧
  (r.opsel = 0x40 → decode r = .ok (.beginHandle (r.addr.setWidth 7) r.clockSpeedHz r.transportConfig)) ∧
  (r.opsel = 0x41 → decode r = .ok (.wrscratch r.addr r.val)) ∧
  (r.opsel = 0x42 → decode r = .ok (.rdscratch r.addr))

/-- Decode and encode agree (R70, R76, R80): every operation is read back from its encoding with every operand at every
value; the encoding of what a request decodes to is that request, with each port the operation reads (R6, R210) as it
stands there and every port it does not read at 0; no two operations share a request. That an unread port is encoded as
0, and that `BEGIN` does not read bit 7 of `ADDR`, are the model's (log 26, log 21). -/
def Obligations.DecodeAndEncodeAgree : Prop :=
  (∀ i : Instr, decode (encode i) = .ok i) ∧
  (∀ (r : Request) (i : Instr), decode r = .ok i → r.opsel = i.opsel) ∧
  (∀ (r : Request) (i : Instr), decode r = .ok i → encode i = onlyPortsOf i r) ∧
  (∀ i j : Instr, encode i = encode j → i = j)

/-- R81: the reserved selectors are exactly the listed ones, and a step that meets one is refused by name. -/
def Obligations.ReservedSelectorsAreRefused : Prop :=
  ∀ (s : State) (r : Request) (rest : List Request), s.requests = r :: rest →
    (step s = .refused (.reservedSelector r.opsel) ↔
      ((0x05 ≤ r.opsel.toNat ∧ r.opsel.toNat ≤ 0x07) ∨ (0x0D ≤ r.opsel.toNat ∧ r.opsel.toNat ≤ 0x0F) ∨
        (0x14 ≤ r.opsel.toNat ∧ r.opsel.toNat ≤ 0x1F) ∨ (0x25 ≤ r.opsel.toNat ∧ r.opsel.toNat ≤ 0x27) ∨
        (0x2D ≤ r.opsel.toNat ∧ r.opsel.toNat ≤ 0x2F) ∨ (0x3B ≤ r.opsel.toNat ∧ r.opsel.toNat ≤ 0x3F) ∨
        0x43 ≤ r.opsel.toNat))

/-- R250: a Layer 1 operation other than `BEGIN` on an `Uninitialized` handle is refused, and a Layer 0 operation
never is. That the refusal is named `beforeBegin` even where an address outside the admitted set would be refused as well
is the model's choice (log 18). -/
def Obligations.LayerOneBeforeBeginIsRefused : Prop :=
  ∀ (i : Instr) (s : State), s.initState = .uninitialized →
    (i.layer = 1 → i.isBegin = false → exec i s = .refused .beforeBegin) ∧
    (i.layer = 0 → ∃ t, exec i s = .next t)

/-- R250: on a `Failed` handle an operation other than `BEGIN` runs its steps, those it runs on a ready one: it answers
the same but for `INIT_STATE` (log 25, DEDUCED). -/
def Obligations.FailedHandleRunsLikeAReadyOne : Prop :=
  ∀ (i : Instr) (s : State), i.isBegin = false → s.initState = .failed →
    (∀ t, exec i { s with initState := .ready } = .next t → exec i s = .next { t with initState := .failed }) ∧
    (∀ e, exec i { s with initState := .ready } = .refused e → exec i s = .refused e) ∧
    (∀ e, exec i { s with initState := .ready } = .fault e → exec i s = .fault e)

/-- R256: the machine refuses exactly what the spec says it does: a reserved selector, an operand of `RDREG`, `WRREG` or
`BEGIN` outside its admitted set, `BEGIN` a second time, a Layer 1 operation before any `BEGIN`. -/
def Obligations.RefusedExactlyWhenTheSpecRefuses : Prop :=
  (∀ (i : Instr) (s : State), (∃ e, exec i s = .refused e) ↔ refuses i s) ∧
  (∀ (s : State) (r : Request) (rest : List Request), s.requests = r :: rest →
    ((∃ e, step s = .refused e) ↔
      (decode r = .error (.reservedSelector r.opsel) ∨ ∃ i, decode r = .ok i ∧ refuses i s)))

/-- R283: with a transport that answers every call no operation hangs; one that hangs was left unanswered at one of its
own transactions, all before which completed; and a transport that does not answer an operation's first transaction hangs
it. The model's: every wait returns, which R283 makes a premise (log 24, DEDUCED), and a hang is a fault (log 19,
DEDUCED). -/
def Obligations.OperationsEndIfTheTransportAnswers : Prop :=
  (∀ (i : Instr) (s : State) (r : Fault), s.transportAnswers → exec i s ≠ .fault r) ∧
  (∀ (i : Instr) (s : State), exec i s = .fault .transportNeverReturns →
    ∃ k, k < mostTransactions i ∧ s.completes k ∧ (s.eventAt (s.pos + k)).answer = .never) ∧
  (∀ (i : Instr) (s : State), i.layer = 1 → ¬refuses i s →
    (∀ a : Byte, (i = .rdscratch a ∨ ∃ v, i = .wrscratch a v) → a = 0x05 ∨ a = 0x06 ∨ a = 0x08) →
    s.event.answer = .never → exec i s = .fault .transportNeverReturns)

/-- R52, R53: the bus sees each operation's calls after those of the operations before it: a step only adds to the
trace, at most five calls, three of them transactions, and none for a Layer 0 operation. -/
def Obligations.EveryStepOnlyAddsToTheTrace : Prop :=
  (∀ s t : State, step s = .next t →
    ∃ l : List BusRecord, t.trace = s.trace ++ l ∧ l.length ≤ 5 ∧ s.pos ≤ t.pos ∧ t.pos ≤ s.pos + 3) ∧
  (∀ (i : Instr) (s t : State), exec i s = .next t → s.pos ≤ t.pos ∧ t.pos ≤ s.pos + mostTransactions i) ∧
  (∀ (i : Instr) (s t : State), i.layer = 0 → exec i s = .next t → t.trace = s.trace ∧ t.pos = s.pos)

/-- R24, R25, R26, R27: what of the block an operation may change: only `BEGIN` writes the handle, only `WRSCRATCH` the
sequencer; no operation touches the environment's script, the kind of sensor or the waiting requests. -/
def Obligations.BlockStateChangesOnlyWhereNamed : Prop :=
  ∀ (i : Instr) (s t : State), exec i s = .next t →
    (i.isBegin = false → t.initState = s.initState ∧ t.devAddr = s.devAddr ∧ t.busRef = s.busRef) ∧
    ((∀ a v, i ≠ .wrscratch a v) → t.seqState = s.seqState) ∧
    t.requests = s.requests ∧ t.kind = s.kind ∧ t.script = s.script

/-- R240, R23: the numbers of the statuses, one each, and that only Layer 1 operations report one. -/
def Obligations.StatusCodesAreAsNumbered : Prop :=
  (statusCode .ok = 0 ∧ statusCode .transportError = 1 ∧ statusCode .identityMismatch = 2 ∧
    statusCode .invalidRegister = 3) ∧
  (∀ e : Status, statusOfCode (statusCode e) = e) ∧ (∀ c : BitVec 2, statusCode (statusOfCode c) = c) ∧
  (∀ (i : Instr) (s t : State), exec i s = .next t → (t.outputs.status = none ↔ i.layer = 0))

/-- R240 to R243: who raises which error. -/
def Obligations.EachErrorHasItsOwnRaisers : Prop :=
  ∀ (i : Instr) (s t : State), exec i s = .next t →
    (t.outputs.status = some .identityMismatch → i.isBegin = true) ∧
    (t.outputs.status = some .invalidRegister →
      ∃ a : Byte, a ≠ 0x05 ∧ a ≠ 0x06 ∧ a ≠ 0x08 ∧ (i = .rdscratch a ∨ ∃ v, i = .wrscratch a v)) ∧
    (t.outputs.status = some .transportError →
      ∃ k, s.pos + k < t.pos ∧ s.completes k ∧ (s.eventAt (s.pos + k)).answer = .failed)

/-- The invariant of the block's state (R24 to R26, R214, R270, R274, R275) is kept by every step: `Probing` never
shows, the sequencer rests where the spec says, a bound handle has a legal address, nothing is sent before `BEGIN`, and
the waits of the scratch sequence are never skipped. That a failed write owes no wait is the model's choice (log 33). -/
def Obligations.EveryStepKeepsTheBlockInvariant : Prop :=
  ∀ s t : State, s.Inv → step s = .next t → t.Inv

/-- The invariant holds at reset. -/
def Obligations.ResetHasTheBlockInvariant : Prop :=
  State.reset.Inv

/-- R51: the reference sensor stays one: every step leaves it never failing, undisturbed, and with `ID_A` in `ID`. -/
def Obligations.EveryStepKeepsTheReferenceSensor : Prop :=
  ∀ s t : State, s.onReference → step s = .next t → t.onReference

/-- R270: what reset leaves of the block. -/
def Obligations.ResetLeavesTheBlockFresh : Prop :=
  State.reset.initState = .uninitialized ∧ State.reset.seqState = .locked ∧ State.reset.trace = []
end

