-- ==== Sys2Proof/Laws/Decode.lean ====
section
/-!
SUPPORT. What the decoder can answer, said once.
-/

namespace Sys2Proof

/-- A request that decodes has the selector of its operation; one that does not is rejected by its selector. -/
theorem decode_cases (r : Request) :
    (∃ i, decode r = .ok i ∧ i.opsel = r.opsel) ∨ decode r = .error (.reservedSelector r.opsel) := by
  unfold decode
  split <;> first
    | exact .inr rfl
    | exact .inl ⟨_, rfl, BitVec.eq_of_toNat_eq (by simp_all [Instr.opsel])⟩

/-- The selector of an encoded operation stands on its port. -/
@[simp] theorem encode_opsel (i : Instr) : (encode i).opsel = i.opsel := by cases i <;> rfl

end Sys2Proof
end

