-- ==== Sys2Proof/Laws/State.lean ====
section
/-!
SUPPORT. One lemma per field of State per named update, each true by definition, and the same for the sensor's
registers: no later proof unfolds a record update.
-/

namespace Sys2Proof.Machine

variable (s : State)

@[simp] theorem setInit_requests (v : InitState) : (setInit v s).requests = s.requests := rfl
@[simp] theorem setInit_outputs (v : InitState) : (setInit v s).outputs = s.outputs := rfl
@[simp] theorem setInit_initState (v : InitState) : (setInit v s).initState = v := rfl
@[simp] theorem setInit_devAddr (v : InitState) : (setInit v s).devAddr = s.devAddr := rfl
@[simp] theorem setInit_busRef (v : InitState) : (setInit v s).busRef = s.busRef := rfl
@[simp] theorem setInit_seqState (v : InitState) : (setInit v s).seqState = s.seqState := rfl
@[simp] theorem setInit_trace (v : InitState) : (setInit v s).trace = s.trace := rfl
@[simp] theorem setInit_sensor (v : InitState) : (setInit v s).sensor = s.sensor := rfl
@[simp] theorem setInit_kind (v : InitState) : (setInit v s).kind = s.kind := rfl
@[simp] theorem setInit_script (v : InitState) : (setInit v s).script = s.script := rfl
@[simp] theorem setInit_pos (v : InitState) : (setInit v s).pos = s.pos := rfl
@[simp] theorem setInit_draws (v : InitState) : (setInit v s).draws = s.draws := rfl

@[simp] theorem setSeq_requests (v : SeqState) : (setSeq v s).requests = s.requests := rfl
@[simp] theorem setSeq_outputs (v : SeqState) : (setSeq v s).outputs = s.outputs := rfl
@[simp] theorem setSeq_initState (v : SeqState) : (setSeq v s).initState = s.initState := rfl
@[simp] theorem setSeq_devAddr (v : SeqState) : (setSeq v s).devAddr = s.devAddr := rfl
@[simp] theorem setSeq_busRef (v : SeqState) : (setSeq v s).busRef = s.busRef := rfl
@[simp] theorem setSeq_seqState (v : SeqState) : (setSeq v s).seqState = v := rfl
@[simp] theorem setSeq_trace (v : SeqState) : (setSeq v s).trace = s.trace := rfl
@[simp] theorem setSeq_sensor (v : SeqState) : (setSeq v s).sensor = s.sensor := rfl
@[simp] theorem setSeq_kind (v : SeqState) : (setSeq v s).kind = s.kind := rfl
@[simp] theorem setSeq_script (v : SeqState) : (setSeq v s).script = s.script := rfl
@[simp] theorem setSeq_pos (v : SeqState) : (setSeq v s).pos = s.pos := rfl
@[simp] theorem setSeq_draws (v : SeqState) : (setSeq v s).draws = s.draws := rfl

@[simp] theorem setOutputs_requests (o : Outputs) : (setOutputs o s).requests = s.requests := rfl
@[simp] theorem setOutputs_outputs (o : Outputs) : (setOutputs o s).outputs = o := rfl
@[simp] theorem setOutputs_initState (o : Outputs) : (setOutputs o s).initState = s.initState := rfl
@[simp] theorem setOutputs_devAddr (o : Outputs) : (setOutputs o s).devAddr = s.devAddr := rfl
@[simp] theorem setOutputs_busRef (o : Outputs) : (setOutputs o s).busRef = s.busRef := rfl
@[simp] theorem setOutputs_seqState (o : Outputs) : (setOutputs o s).seqState = s.seqState := rfl
@[simp] theorem setOutputs_trace (o : Outputs) : (setOutputs o s).trace = s.trace := rfl
@[simp] theorem setOutputs_sensor (o : Outputs) : (setOutputs o s).sensor = s.sensor := rfl
@[simp] theorem setOutputs_kind (o : Outputs) : (setOutputs o s).kind = s.kind := rfl
@[simp] theorem setOutputs_script (o : Outputs) : (setOutputs o s).script = s.script := rfl
@[simp] theorem setOutputs_pos (o : Outputs) : (setOutputs o s).pos = s.pos := rfl
@[simp] theorem setOutputs_draws (o : Outputs) : (setOutputs o s).draws = s.draws := rfl

@[simp] theorem configure_requests (clk : Nat) (pins : Option Nat) : (configure clk pins s).requests = s.requests := rfl
@[simp] theorem configure_outputs (clk : Nat) (pins : Option Nat) : (configure clk pins s).outputs = s.outputs := rfl
@[simp] theorem configure_initState (clk : Nat) (pins : Option Nat) : (configure clk pins s).initState = s.initState := rfl
@[simp] theorem configure_devAddr (clk : Nat) (pins : Option Nat) : (configure clk pins s).devAddr = s.devAddr := rfl
@[simp] theorem configure_busRef (clk : Nat) (pins : Option Nat) : (configure clk pins s).busRef = s.busRef := rfl
@[simp] theorem configure_seqState (clk : Nat) (pins : Option Nat) : (configure clk pins s).seqState = s.seqState := rfl
@[simp] theorem configure_trace (clk : Nat) (pins : Option Nat) : (configure clk pins s).trace = s.trace ++ [.configure s.busRef clk pins] := rfl
@[simp] theorem configure_sensor (clk : Nat) (pins : Option Nat) : (configure clk pins s).sensor = s.sensor := rfl
@[simp] theorem configure_kind (clk : Nat) (pins : Option Nat) : (configure clk pins s).kind = s.kind := rfl
@[simp] theorem configure_script (clk : Nat) (pins : Option Nat) : (configure clk pins s).script = s.script := rfl
@[simp] theorem configure_pos (clk : Nat) (pins : Option Nat) : (configure clk pins s).pos = s.pos := rfl
@[simp] theorem configure_draws (clk : Nat) (pins : Option Nat) : (configure clk pins s).draws = s.draws := rfl

@[simp] theorem waitUnits_requests (n : Nat) : (waitUnits n s).requests = s.requests := rfl
@[simp] theorem waitUnits_outputs (n : Nat) : (waitUnits n s).outputs = s.outputs := rfl
@[simp] theorem waitUnits_initState (n : Nat) : (waitUnits n s).initState = s.initState := rfl
@[simp] theorem waitUnits_devAddr (n : Nat) : (waitUnits n s).devAddr = s.devAddr := rfl
@[simp] theorem waitUnits_busRef (n : Nat) : (waitUnits n s).busRef = s.busRef := rfl
@[simp] theorem waitUnits_seqState (n : Nat) : (waitUnits n s).seqState = s.seqState := rfl
@[simp] theorem waitUnits_trace (n : Nat) : (waitUnits n s).trace = s.trace ++ [.wait n] := rfl
@[simp] theorem waitUnits_sensor (n : Nat) : (waitUnits n s).sensor = s.sensor.elapse n := rfl
@[simp] theorem waitUnits_kind (n : Nat) : (waitUnits n s).kind = s.kind := rfl
@[simp] theorem waitUnits_script (n : Nat) : (waitUnits n s).script = s.script := rfl
@[simp] theorem waitUnits_pos (n : Nat) : (waitUnits n s).pos = s.pos := rfl
@[simp] theorem waitUnits_draws (n : Nat) : (waitUnits n s).draws = s.draws := rfl

@[simp] theorem raised_requests (e : Status) : (raised e s).requests = s.requests := rfl
@[simp] theorem raised_outputs (e : Status) : (raised e s).outputs = failedWith e s.draws := rfl
@[simp] theorem raised_initState (e : Status) : (raised e s).initState = s.initState := rfl
@[simp] theorem raised_devAddr (e : Status) : (raised e s).devAddr = s.devAddr := rfl
@[simp] theorem raised_busRef (e : Status) : (raised e s).busRef = s.busRef := rfl
@[simp] theorem raised_seqState (e : Status) : (raised e s).seqState = s.seqState := rfl
@[simp] theorem raised_trace (e : Status) : (raised e s).trace = s.trace := rfl
@[simp] theorem raised_sensor (e : Status) : (raised e s).sensor = s.sensor := rfl
@[simp] theorem raised_kind (e : Status) : (raised e s).kind = s.kind := rfl
@[simp] theorem raised_script (e : Status) : (raised e s).script = s.script := rfl
@[simp] theorem raised_pos (e : Status) : (raised e s).pos = s.pos := rfl
@[simp] theorem raised_draws (e : Status) : (raised e s).draws = s.draws + 1 := rfl

@[simp] theorem beginProbe_requests (a : BitVec 7) (clk : Nat) (pins : Option Nat) : (beginProbe a clk pins s).requests = s.requests := rfl
@[simp] theorem beginProbe_outputs (a : BitVec 7) (clk : Nat) (pins : Option Nat) : (beginProbe a clk pins s).outputs = s.outputs := rfl
@[simp] theorem beginProbe_initState (a : BitVec 7) (clk : Nat) (pins : Option Nat) : (beginProbe a clk pins s).initState = .probing := rfl
@[simp] theorem beginProbe_devAddr (a : BitVec 7) (clk : Nat) (pins : Option Nat) : (beginProbe a clk pins s).devAddr = a := rfl
@[simp] theorem beginProbe_busRef (a : BitVec 7) (clk : Nat) (pins : Option Nat) : (beginProbe a clk pins s).busRef = Config.busRef := rfl
@[simp] theorem beginProbe_seqState (a : BitVec 7) (clk : Nat) (pins : Option Nat) : (beginProbe a clk pins s).seqState = s.seqState := rfl
@[simp] theorem beginProbe_trace (a : BitVec 7) (clk : Nat) (pins : Option Nat) : (beginProbe a clk pins s).trace = s.trace ++ [.configure Config.busRef clk pins] := rfl
@[simp] theorem beginProbe_sensor (a : BitVec 7) (clk : Nat) (pins : Option Nat) : (beginProbe a clk pins s).sensor = s.sensor := rfl
@[simp] theorem beginProbe_kind (a : BitVec 7) (clk : Nat) (pins : Option Nat) : (beginProbe a clk pins s).kind = s.kind := rfl
@[simp] theorem beginProbe_script (a : BitVec 7) (clk : Nat) (pins : Option Nat) : (beginProbe a clk pins s).script = s.script := rfl
@[simp] theorem beginProbe_pos (a : BitVec 7) (clk : Nat) (pins : Option Nat) : (beginProbe a clk pins s).pos = s.pos := rfl
@[simp] theorem beginProbe_draws (a : BitVec 7) (clk : Nat) (pins : Option Nat) : (beginProbe a clk pins s).draws = s.draws := rfl

@[simp] theorem readDone_requests (a : SReg) : (readDone a s).requests = s.requests := rfl
@[simp] theorem readDone_outputs (a : SReg) : (readDone a s).outputs = s.outputs := rfl
@[simp] theorem readDone_initState (a : SReg) : (readDone a s).initState = s.initState := rfl
@[simp] theorem readDone_devAddr (a : SReg) : (readDone a s).devAddr = s.devAddr := rfl
@[simp] theorem readDone_busRef (a : SReg) : (readDone a s).busRef = s.busRef := rfl
@[simp] theorem readDone_seqState (a : SReg) : (readDone a s).seqState = s.seqState := rfl
@[simp] theorem readDone_trace (a : SReg) :
    (readDone a s).trace = s.trace ++ [.writeThenRead s.busRef s.devAddr [regAddr a] 2
      (some [hiByte ((s.found a).get a), loByte ((s.found a).get a)])] := rfl
@[simp] theorem readDone_sensor (a : SReg) : (readDone a s).sensor = s.found a := rfl
@[simp] theorem readDone_kind (a : SReg) : (readDone a s).kind = s.kind := rfl
@[simp] theorem readDone_script (a : SReg) : (readDone a s).script = s.script := rfl
@[simp] theorem readDone_pos (a : SReg) : (readDone a s).pos = s.pos + 1 := rfl
@[simp] theorem readDone_draws (a : SReg) : (readDone a s).draws = s.draws := rfl

@[simp] theorem readFailed_requests (a : SReg) : (readFailed a s).requests = s.requests := rfl
@[simp] theorem readFailed_outputs (a : SReg) : (readFailed a s).outputs = s.outputs := rfl
@[simp] theorem readFailed_initState (a : SReg) : (readFailed a s).initState = s.initState := rfl
@[simp] theorem readFailed_devAddr (a : SReg) : (readFailed a s).devAddr = s.devAddr := rfl
@[simp] theorem readFailed_busRef (a : SReg) : (readFailed a s).busRef = s.busRef := rfl
@[simp] theorem readFailed_seqState (a : SReg) : (readFailed a s).seqState = s.seqState := rfl
@[simp] theorem readFailed_trace (a : SReg) :
    (readFailed a s).trace = s.trace ++ [.writeThenRead s.busRef s.devAddr [regAddr a] 2 none] := rfl
@[simp] theorem readFailed_sensor (a : SReg) : (readFailed a s).sensor = s.found a := rfl
@[simp] theorem readFailed_kind (a : SReg) : (readFailed a s).kind = s.kind := rfl
@[simp] theorem readFailed_script (a : SReg) : (readFailed a s).script = s.script := rfl
@[simp] theorem readFailed_pos (a : SReg) : (readFailed a s).pos = s.pos + 1 := rfl
@[simp] theorem readFailed_draws (a : SReg) : (readFailed a s).draws = s.draws := rfl

@[simp] theorem writeDone_requests (a : SReg) (v : Word) : (writeDone a v s).requests = s.requests := rfl
@[simp] theorem writeDone_outputs (a : SReg) (v : Word) : (writeDone a v s).outputs = s.outputs := rfl
@[simp] theorem writeDone_initState (a : SReg) (v : Word) : (writeDone a v s).initState = s.initState := rfl
@[simp] theorem writeDone_devAddr (a : SReg) (v : Word) : (writeDone a v s).devAddr = s.devAddr := rfl
@[simp] theorem writeDone_busRef (a : SReg) (v : Word) : (writeDone a v s).busRef = s.busRef := rfl
@[simp] theorem writeDone_seqState (a : SReg) (v : Word) : (writeDone a v s).seqState = s.seqState := rfl
@[simp] theorem writeDone_trace (a : SReg) (v : Word) :
    (writeDone a v s).trace = s.trace ++ [.write s.busRef s.devAddr [regAddr a, hiByte v, loByte v] true] := rfl
@[simp] theorem writeDone_sensor (a : SReg) (v : Word) :
    (writeDone a v s).sensor = (s.found a).written s.kind s.pos a v := rfl
@[simp] theorem writeDone_kind (a : SReg) (v : Word) : (writeDone a v s).kind = s.kind := rfl
@[simp] theorem writeDone_script (a : SReg) (v : Word) : (writeDone a v s).script = s.script := rfl
@[simp] theorem writeDone_pos (a : SReg) (v : Word) : (writeDone a v s).pos = s.pos + 1 := rfl
@[simp] theorem writeDone_draws (a : SReg) (v : Word) : (writeDone a v s).draws = s.draws := rfl

@[simp] theorem writeFailed_requests (a : SReg) (v : Word) : (writeFailed a v s).requests = s.requests := rfl
@[simp] theorem writeFailed_outputs (a : SReg) (v : Word) : (writeFailed a v s).outputs = s.outputs := rfl
@[simp] theorem writeFailed_initState (a : SReg) (v : Word) : (writeFailed a v s).initState = s.initState := rfl
@[simp] theorem writeFailed_devAddr (a : SReg) (v : Word) : (writeFailed a v s).devAddr = s.devAddr := rfl
@[simp] theorem writeFailed_busRef (a : SReg) (v : Word) : (writeFailed a v s).busRef = s.busRef := rfl
@[simp] theorem writeFailed_seqState (a : SReg) (v : Word) : (writeFailed a v s).seqState = s.seqState := rfl
@[simp] theorem writeFailed_trace (a : SReg) (v : Word) :
    (writeFailed a v s).trace = s.trace ++ [.write s.busRef s.devAddr [regAddr a, hiByte v, loByte v] false] := rfl
@[simp] theorem writeFailed_sensor (a : SReg) (v : Word) :
    (writeFailed a v s).sensor = (s.found a).writeFailed s.kind s.pos a v := rfl
@[simp] theorem writeFailed_kind (a : SReg) (v : Word) : (writeFailed a v s).kind = s.kind := rfl
@[simp] theorem writeFailed_script (a : SReg) (v : Word) : (writeFailed a v s).script = s.script := rfl
@[simp] theorem writeFailed_pos (a : SReg) (v : Word) : (writeFailed a v s).pos = s.pos + 1 := rfl
@[simp] theorem writeFailed_draws (a : SReg) (v : Word) : (writeFailed a v s).draws = s.draws := rfl

/-- What the environment does depends on the script and the kind of sensor alone. -/
theorem eventAt_congr {t : State} (hs : t.script = s.script) (hk : t.kind = s.kind) (n : Nat) :
    t.eventAt n = s.eventAt n := by
  simp [State.eventAt, hs, hk]

@[simp] theorem setInit_eventAt (v : InitState) (n : Nat) : (setInit v s).eventAt n = s.eventAt n := rfl
@[simp] theorem setSeq_eventAt (v : SeqState) (n : Nat) : (setSeq v s).eventAt n = s.eventAt n := rfl
@[simp] theorem setOutputs_eventAt (o : Outputs) (n : Nat) : (setOutputs o s).eventAt n = s.eventAt n := rfl
@[simp] theorem configure_eventAt (clk : Nat) (pins : Option Nat) (n : Nat) : (configure clk pins s).eventAt n = s.eventAt n := rfl
@[simp] theorem waitUnits_eventAt (n m : Nat) : (waitUnits n s).eventAt m = s.eventAt m := rfl
@[simp] theorem raised_eventAt (e : Status) (n : Nat) : (raised e s).eventAt n = s.eventAt n := rfl
@[simp] theorem beginProbe_eventAt (a : BitVec 7) (clk : Nat) (pins : Option Nat) (n : Nat) : (beginProbe a clk pins s).eventAt n = s.eventAt n := rfl
@[simp] theorem readDone_eventAt (a : SReg) (m : Nat) : (readDone a s).eventAt m = s.eventAt m := rfl
@[simp] theorem readFailed_eventAt (a : SReg) (m : Nat) : (readFailed a s).eventAt m = s.eventAt m := rfl
@[simp] theorem writeDone_eventAt (a : SReg) (v : Word) (m : Nat) : (writeDone a v s).eventAt m = s.eventAt m := rfl
@[simp] theorem writeFailed_eventAt (a : SReg) (v : Word) (m : Nat) : (writeFailed a v s).eventAt m = s.eventAt m := rfl

variable (x : Sensor)

/-- A register just set reads as it was set. -/
@[simp] theorem Sensor.get_set_same (a : SReg) (v : Word) : (x.set a v).get a = v := by cases a <;> rfl

/-- Setting one register leaves every other one as it was. -/
theorem Sensor.get_set_other {a b : SReg} (h : b ≠ a) (v : Word) : (x.set a v).get b = x.get b := by
  cases a <;> cases b <;> first | rfl | exact absurd rfl h

@[simp] theorem Sensor.set_settle (a : SReg) (v : Word) : (x.set a v).settle = x.settle := by cases a <;> rfl
@[simp] theorem Sensor.set_prog (a : SReg) (v : Word) : (x.set a v).prog = x.prog := by cases a <;> rfl

/-- Waiting leaves every register as it was. -/
@[simp] theorem Sensor.get_elapse (a : SReg) (n : Nat) : (x.elapse n).get a = x.get a := by cases a <;> rfl

/-- The marks of a write leave every register as it was. -/
@[simp] theorem Sensor.get_mark (a b : SReg) (v : Word) : (x.mark a v).get b = x.get b := by
  unfold Sensor.mark
  split
  · cases b <;> rfl
  · split <;> cases b <;> rfl

/-- What a completed write to the oracle leaves in each register, where the spec gives it: `CFG`, `HIGH`, `LOW`,
`UNLOCK` and `OFFSET` replaced whole (R49), a slot while the sensor is unlocked, settled and programming nothing (R35,
R278). -/
theorem Sensor.get_written_oracle {a : SReg} {v : Word}
    (h : (a = .cfg ∧ v ≠ resetSentinel) ∨ a = .high ∨ a = .low ∨ a = .unlock ∨ a = .offset ∨
      (isSlot a = true ∧ x.isUnlocked = true ∧ x.settle = 0 ∧ x.prog = none)) (n : Nat) (b : SReg) :
    (x.written .oracle n a v).get b = (x.set a v).get b := by
  rw [Sensor.written, Sensor.get_mark]
  rcases h with ⟨rfl, h⟩ | rfl | rfl | rfl | rfl | ⟨hs, hu, ht, hp⟩
  · simp [Sensor.store, h]
  · rfl
  · rfl
  · rfl
  · rfl
  · cases a <;> simp_all [Sensor.store, isSlot]

@[simp] theorem Sensor.get_temp : x.get .temp = x.temp := rfl
@[simp] theorem Sensor.get_cfg : x.get .cfg = x.cfg := rfl
@[simp] theorem Sensor.get_high : x.get .high = x.high := rfl
@[simp] theorem Sensor.get_low : x.get .low = x.low := rfl
@[simp] theorem Sensor.get_unlock : x.get .unlock = x.unlock := rfl
@[simp] theorem Sensor.get_scr1 : x.get .scr1 = x.scr1 := rfl
@[simp] theorem Sensor.get_scr2 : x.get .scr2 = x.scr2 := rfl
@[simp] theorem Sensor.get_offset : x.get .offset = x.offset := rfl
@[simp] theorem Sensor.get_scr3 : x.get .scr3 = x.scr3 := rfl
@[simp] theorem Sensor.get_id : x.get .id = x.id := rfl

end Sys2Proof.Machine
end

