-- ==== Sys2Proof/Laws/Ops.lean ====
section
/-!
SUPPORT. One lemma per shared operation that says once everything it can do; the provers cite these instead of
unfolding the operations.
-/

namespace Sys2Proof.Machine

/-! ### Words, bytes, addresses -/

/-- The number a frame's two bytes make (R46). -/
theorem wordOfBytes_toNat (b0 b1 : Byte) : (wordOfBytes b0 b1).toNat = b0.toNat * 256 + b1.toNat := by
  have h0 := b0.isLt
  have h1 := b1.isLt
  simp only [wordOfBytes, BitVec.toNat_ofNat]
  omega

/-- A register value sent most significant byte first is received as it was (R46). -/
@[simp] theorem wordOfBytes_hi_lo (w : Word) : wordOfBytes (hiByte w) (loByte w) = w := by
  apply BitVec.eq_of_toNat_eq
  have h := w.isLt
  simp only [wordOfBytes_toNat, hiByte, loByte, BitVec.extractLsb'_toNat, Nat.shiftRight_eq_div_pow]
  omega

/-- Every register of the map is found at its address (R28). -/
@[simp] theorem regAt_regAddr (a : SReg) : regAt (regAddr a) = some a := by cases a <;> rfl

/-- The address of the register found at an address is that address (R28). -/
theorem regAddr_of_regAt {b : Byte} {a : SReg} (h : regAt b = some a) : regAddr a = b := by
  apply BitVec.eq_of_toNat_eq
  unfold regAt at h
  split at h <;> first | (cases h; simp_all [regAddr]) | cases h

/-- The slots are found at their addresses (R215). -/
theorem slotAt_eq_some {b : Byte} {a : SReg} : slotAt b = some a ↔ regAt b = some a ∧ isSlot a = true := by
  unfold slotAt
  cases regAt b with
  | none => simp
  | some r =>
    cases hr : isSlot r
    · simp only [hr]
      constructor
      · intro h; cases h
      · rintro ⟨h, h'⟩; cases h; simp_all
    · simp only [hr]
      constructor
      · intro h; cases h; exact ⟨rfl, hr⟩
      · rintro ⟨h, _⟩; exact h

/-! ### Transactions -/

variable {s : State} {a : SReg} {v : Word}

/-- A completed read. -/
theorem memRead_done (h : s.event.answer = .done) : memRead a s = .done ((s.found a).get a) (readDone a s) := by
  simp [memRead, readBytes, h]

/-- A failed read. -/
theorem memRead_failed (h : s.event.answer = .failed) : memRead a s = .failed (readFailed a s) := by
  simp [memRead, readBytes, h]

/-- A read that never returns. -/
theorem memRead_never (h : s.event.answer = .never) : memRead a s = .hung := by
  simp [memRead, readBytes, h]

/-- A completed write. -/
theorem memWrite_done (h : s.event.answer = .done) : memWrite a v s = .done () (writeDone a v s) := by
  simp [memWrite, h]

/-- A failed write. -/
theorem memWrite_failed (h : s.event.answer = .failed) : memWrite a v s = .failed (writeFailed a v s) := by
  simp [memWrite, h]

/-- A write that never returns. -/
theorem memWrite_never (h : s.event.answer = .never) : memWrite a v s = .hung := by
  simp [memWrite, h]

/-- Everything a read can come to. -/
theorem memRead_cases (a : SReg) (s : State) :
    (s.event.answer = .never ∧ memRead a s = .hung) ∨
    (s.event.answer = .failed ∧ memRead a s = .failed (readFailed a s)) ∨
    (s.event.answer = .done ∧ memRead a s = .done ((s.found a).get a) (readDone a s)) := by
  cases h : s.event.answer with
  | never => exact .inl ⟨rfl, memRead_never h⟩
  | failed => exact .inr (.inl ⟨rfl, memRead_failed h⟩)
  | done => exact .inr (.inr ⟨rfl, memRead_done h⟩)

/-- Everything a write can come to. -/
theorem memWrite_cases (a : SReg) (v : Word) (s : State) :
    (s.event.answer = .never ∧ memWrite a v s = .hung) ∨
    (s.event.answer = .failed ∧ memWrite a v s = .failed (writeFailed a v s)) ∨
    (s.event.answer = .done ∧ memWrite a v s = .done () (writeDone a v s)) := by
  cases h : s.event.answer with
  | never => exact .inl ⟨rfl, memWrite_never h⟩
  | failed => exact .inr (.inl ⟨rfl, memWrite_failed h⟩)
  | done => exact .inr (.inr ⟨rfl, memWrite_done h⟩)

/-- What the environment does at the next transaction, as the one at its number. -/
theorem event_eq (s : State) : s.event = s.eventAt s.pos := rfl

/-! ### Ending an operation -/

@[simp] theorem orRaise_done {α : Type} (v : α) (t : State) (k : α → State → Result) :
    (Reply.done v t).orRaise k = k v t := rfl
@[simp] theorem orRaise_failed {α : Type} (t : State) (k : α → State → Result) :
    (Reply.failed t : Reply α).orRaise k = raise .transportError t := rfl
@[simp] theorem orRaise_hung {α : Type} (k : α → State → Result) :
    (Reply.hung : Reply α).orRaise k = .fault .transportNeverReturns := rfl

/-- A transaction followed by the rest of an operation answers a next state in two ways: it failed, or it completed
and the rest answers it. -/
theorem orRaise_next {α : Type} {r : Reply α} {k : α → State → Result} {t : State} (h : r.orRaise k = .next t) :
    (∃ u, r = .failed u ∧ t = raised .transportError u) ∨ (∃ v u, r = .done v u ∧ k v u = .next t) := by
  cases r with
  | done v u => exact .inr ⟨v, u, rfl, h⟩
  | failed u => exact .inl ⟨u, rfl, by cases h; rfl⟩
  | hung => cases h

/-- A bound handle runs the operation (R250). -/
theorem onHandle_bound (h : s.initState ≠ .uninitialized) (k : State → Result) : onHandle s k = k s := by
  simp [onHandle, h]

/-- A ready handle runs the operation (R250). -/
theorem onHandle_ready (h : s.initState = .ready) (k : State → Result) : onHandle s k = k s :=
  onHandle_bound (by simp [h]) k

/-- Before `BEGIN` it is refused (R250). -/
theorem onHandle_unbound (h : s.initState = .uninitialized) (k : State → Result) :
    onHandle s k = .refused .beforeBegin := by
  simp [onHandle, h]

/-- A Layer 1 operation that answers a next state ran on a bound handle. -/
theorem onHandle_next {k : State → Result} {t : State} (h : onHandle s k = .next t) :
    s.initState ≠ .uninitialized ∧ k s = .next t := by
  unfold onHandle at h
  split at h
  · cases h
  · exact ⟨‹_›, h⟩

@[simp] theorem finish_eq (o : Outputs) (t : State) : finish o t = .next (setOutputs o t) := rfl
@[simp] theorem raise_eq (e : Status) (t : State) : raise e t = .next (raised e t) := rfl

end Sys2Proof.Machine
end

