-- ==== Sys2Proof/Laws/Meanings.lean ====
section
/-!
SUPPORT. What each shape of meaning can come to, said once: a single read, a single write, a setter, the phases of the
scratch sequence and the probe of `BEGIN`.
-/

namespace Sys2Proof.Machine

variable (s : State)

/-- Everything an operation of one read can come to. -/
theorem readAndFinish_cases (a : SReg) (o : Word → Outputs) :
    (s.event.answer = .never ∧ readAndFinish a o s = .fault .transportNeverReturns) ∨
    (s.event.answer = .failed ∧ readAndFinish a o s = .next (raised .transportError (readFailed a s))) ∨
    (s.event.answer = .done ∧ readAndFinish a o s = .next (setOutputs (o ((s.found a).get a)) (readDone a s))) := by
  rcases memRead_cases a s with ⟨h, e⟩ | ⟨h, e⟩ | ⟨h, e⟩ <;> simp [readAndFinish, h, e]

/-- Everything an operation of one write can come to. -/
theorem writeAndFinish_cases (a : SReg) (v : Word) :
    (s.event.answer = .never ∧ writeAndFinish a v s = .fault .transportNeverReturns) ∨
    (s.event.answer = .failed ∧ writeAndFinish a v s = .next (raised .transportError (writeFailed a v s))) ∨
    (s.event.answer = .done ∧ writeAndFinish a v s = .next (setOutputs okNothing (writeDone a v s))) := by
  rcases memWrite_cases a v s with ⟨h, e⟩ | ⟨h, e⟩ | ⟨h, e⟩ <;> simp [writeAndFinish, h, e]

/-- Everything a setter on a bound handle can come to. -/
theorem setField_cases (hb : s.initState ≠ .uninitialized) (f : CfgField) (v : Word) :
    let s1 := readDone .cfg s
    let n := pack f (s.found .cfg).cfg v
    (s.event.answer = .never ∧ setField f v s = .fault .transportNeverReturns) ∨
    (s.event.answer = .failed ∧ setField f v s = .next (raised .transportError (readFailed .cfg s))) ∨
    (s.event.answer = .done ∧ s1.event.answer = .never ∧ setField f v s = .fault .transportNeverReturns) ∨
    (s.event.answer = .done ∧ s1.event.answer = .failed ∧
      setField f v s = .next (raised .transportError (writeFailed .cfg n s1))) ∨
    (s.event.answer = .done ∧ s1.event.answer = .done ∧
      setField f v s = .next (setOutputs okNothing (writeDone .cfg n s1))) := by
  intro s1 n
  unfold setField
  rw [onHandle_bound hb]
  rcases memRead_cases .cfg s with ⟨h, e⟩ | ⟨h, e⟩ | ⟨h, e⟩
  · exact .inl ⟨h, by rw [e, orRaise_hung]⟩
  · exact .inr (.inl ⟨h, by rw [e, orRaise_failed, raise_eq]⟩)
  · rw [e, orRaise_done]
    rcases writeAndFinish_cases s1 .cfg n with ⟨h', e'⟩ | ⟨h', e'⟩ | ⟨h', e'⟩
    · exact .inr (.inr (.inl ⟨h, h', e'⟩))
    · exact .inr (.inr (.inr (.inl ⟨h, h', e'⟩)))
    · exact .inr (.inr (.inr (.inr ⟨h, h', e'⟩)))

/-- The state after a completed unlock phase. -/
abbrev unlockDone : State := waitUnits tSettle (setSeq .unlocked (writeDone .unlock unlockSentinel (setSeq .unlocking s)))

/-- The state after a completed programming phase. -/
abbrev programDone (slot : SReg) (v : Word) : State :=
  waitUnits tProgram (setSeq .settling (writeDone slot v (setSeq .writing s)))

/-- The state after a completed lock phase. -/
abbrev lockDone : State := setSeq .locked (writeDone .unlock lockSentinel (setSeq .locking s))

/-- Everything the unlock phase can come to. -/
theorem unlockPhase_cases :
    (s.event.answer = .never ∧ unlockPhase s = .hung) ∨
    (s.event.answer = .failed ∧
      unlockPhase s = .failed (writeFailed .unlock unlockSentinel (setSeq .unlocking s))) ∨
    (s.event.answer = .done ∧ unlockPhase s = .done () (unlockDone s)) := by
  unfold unlockPhase
  rcases memWrite_cases .unlock unlockSentinel (setSeq .unlocking s) with ⟨h, e⟩ | ⟨h, e⟩ | ⟨h, e⟩
  · exact .inl ⟨h, by rw [e]⟩
  · exact .inr (.inl ⟨h, by rw [e]⟩)
  · exact .inr (.inr ⟨h, by rw [e]⟩)

/-- Everything the programming phase can come to. -/
theorem programPhase_cases (slot : SReg) (v : Word) :
    (s.event.answer = .never ∧ programPhase slot v s = .hung) ∨
    (s.event.answer = .failed ∧ programPhase slot v s = .failed (writeFailed slot v (setSeq .writing s))) ∨
    (s.event.answer = .done ∧ programPhase slot v s = .done () (programDone s slot v)) := by
  unfold programPhase
  rcases memWrite_cases slot v (setSeq .writing s) with ⟨h, e⟩ | ⟨h, e⟩ | ⟨h, e⟩
  · exact .inl ⟨h, by rw [e]⟩
  · exact .inr (.inl ⟨h, by rw [e]⟩)
  · exact .inr (.inr ⟨h, by rw [e]⟩)

/-- Everything the lock phase can come to. -/
theorem lockPhase_cases :
    (s.event.answer = .never ∧ lockPhase s = .hung) ∨
    (s.event.answer = .failed ∧ lockPhase s = .failed (writeFailed .unlock lockSentinel (setSeq .locking s))) ∨
    (s.event.answer = .done ∧ lockPhase s = .done () (lockDone s)) := by
  unfold lockPhase
  rcases memWrite_cases .unlock lockSentinel (setSeq .locking s) with ⟨h, e⟩ | ⟨h, e⟩ | ⟨h, e⟩
  · exact .inl ⟨h, by rw [e]⟩
  · exact .inr (.inl ⟨h, by rw [e]⟩)
  · exact .inr (.inr ⟨h, by rw [e]⟩)

/-- Everything `WRSCRATCH` of a slot on a bound handle can come to. -/
theorem execWrscratch_cases (hb : s.initState ≠ .uninitialized) {addr : Byte} {slot : SReg}
    (ha : slotAt addr = some slot) (v : Word) :
    let s1 := unlockDone s
    let s2 := programDone s1 slot v
    ((s.event.answer = .never ∨ (s.event.answer = .done ∧ s1.event.answer = .never) ∨
        (s.event.answer = .done ∧ s1.event.answer = .done ∧ s2.event.answer = .never)) ∧
      execWrscratch addr v s = .fault .transportNeverReturns) ∨
    (s.event.answer = .failed ∧ execWrscratch addr v s =
      .next (raised .transportError (writeFailed .unlock unlockSentinel (setSeq .unlocking s)))) ∨
    (s.event.answer = .done ∧ s1.event.answer = .failed ∧ execWrscratch addr v s =
      .next (raised .transportError (writeFailed slot v (setSeq .writing s1)))) ∨
    (s.event.answer = .done ∧ s1.event.answer = .done ∧ s2.event.answer = .failed ∧ execWrscratch addr v s =
      .next (raised .transportError (writeFailed .unlock lockSentinel (setSeq .locking s2)))) ∨
    (s.event.answer = .done ∧ s1.event.answer = .done ∧ s2.event.answer = .done ∧ execWrscratch addr v s =
      .next (setOutputs okNothing (lockDone s2))) := by
  intro s1 s2
  unfold execWrscratch
  rw [onHandle_bound hb, ha]
  dsimp only
  rcases unlockPhase_cases s with ⟨h, e⟩ | ⟨h, e⟩ | ⟨h, e⟩
  · rw [e, orRaise_hung]; exact .inl ⟨.inl h, rfl⟩
  · rw [e, orRaise_failed, raise_eq]; exact .inr (.inl ⟨h, rfl⟩)
  · rw [e, orRaise_done]
    rcases programPhase_cases s1 slot v with ⟨h', e'⟩ | ⟨h', e'⟩ | ⟨h', e'⟩
    · rw [e', orRaise_hung]; exact .inl ⟨.inr (.inl ⟨h, h'⟩), rfl⟩
    · rw [e', orRaise_failed, raise_eq]; exact .inr (.inr (.inl ⟨h, h', rfl⟩))
    · rw [e', orRaise_done]
      rcases lockPhase_cases s2 with ⟨h2, e2⟩ | ⟨h2, e2⟩ | ⟨h2, e2⟩
      · rw [e2, orRaise_hung]; exact .inl ⟨.inr (.inr ⟨h, h', h2⟩), rfl⟩
      · rw [e2, orRaise_failed, raise_eq]; exact .inr (.inr (.inr (.inl ⟨h, h', h2, rfl⟩)))
      · rw [e2, orRaise_done, finish_eq]; exact .inr (.inr (.inr (.inr ⟨h, h', h2, rfl⟩)))

/-- Everything `BEGIN` can come to. -/
theorem execBeginHandle_cases (a : BitVec 7) (clk : Nat) (pins : Option Nat) :
    let s0 := beginProbe a clk pins s
    (s.initState ≠ .uninitialized ∧ execBeginHandle a clk pins s = .refused .beginAgain) ∨
    (s.initState = .uninitialized ∧ legalDevAddr a = false ∧
      execBeginHandle a clk pins s = .refused (.beginAddress a)) ∨
    (s.initState = .uninitialized ∧ legalDevAddr a = true ∧
      ((s.event.answer = .never ∧ execBeginHandle a clk pins s = .fault .transportNeverReturns) ∨
       (s.event.answer = .failed ∧ execBeginHandle a clk pins s =
          .next (raised .transportError (setInit .failed (readFailed .id s0)))) ∨
       (s.event.answer = .done ∧ acceptedId (s0.found .id).id = true ∧ execBeginHandle a clk pins s =
          .next (setOutputs okNothing (setInit .ready (readDone .id s0)))) ∨
       (s.event.answer = .done ∧ acceptedId (s0.found .id).id = false ∧ execBeginHandle a clk pins s =
          .next (raised .identityMismatch (setInit .failed (readDone .id s0)))))) := by
  intro s0
  unfold execBeginHandle
  by_cases hu : s.initState = .uninitialized
  · rw [if_pos hu]
    cases hl : legalDevAddr a
    · exact .inr (.inl ⟨hu, rfl, by simp⟩)
    · refine .inr (.inr ⟨hu, rfl, ?_⟩)
      rw [if_pos rfl]
      rcases memRead_cases .id s0 with ⟨h, e⟩ | ⟨h, e⟩ | ⟨h, e⟩
      · exact .inl ⟨h, by rw [e]⟩
      · exact .inr (.inl ⟨h, by rw [e]; rfl⟩)
      · cases hi : acceptedId (s0.found .id).id
        · exact .inr (.inr (.inr ⟨h, rfl, by rw [e]; simp [hi]⟩))
        · exact .inr (.inr (.inl ⟨h, rfl, by rw [e]; simp [hi]⟩))
  · rw [if_neg hu]
    exact .inl ⟨hu, rfl⟩

/-! ### Every next state an operation can answer -/

/-- A shape of next state, with what made it so: what a Layer 0 operation, a transaction or a sequence of them leaves. -/
inductive NextShape (s : State) : Instr → State → Prop where
  /-- A Layer 0 result. -/
  | pure (i : Instr) (o : Outputs) (hl : i.layer = 0) (ho : o.status = none) : NextShape s i (setOutputs o s)
  /-- A slot operation with an address that is no slot. -/
  | badSlot (i : Instr) (addr : Byte) (hb : s.initState ≠ .uninitialized) (ha : slotAt addr = none)
      (hi : i = .rdscratch addr ∨ ∃ v, i = .wrscratch addr v) : NextShape s i (raised .invalidRegister s)
  /-- One read, completed. -/
  | readDone (i : Instr) (a : SReg) (o : Outputs) (hl : i.layer = 1) (hn : i.isBegin = false)
      (hw : ∀ addr v, i ≠ .wrscratch addr v) (hb : s.initState ≠ .uninitialized) (he : s.event.answer = .done)
      (ho : o.status = some .ok) : NextShape s i (setOutputs o (readDone a s))
  /-- One read, failed. -/
  | readFailed (i : Instr) (a : SReg) (hl : i.layer = 1) (hn : i.isBegin = false)
      (hw : ∀ addr v, i ≠ .wrscratch addr v) (hb : s.initState ≠ .uninitialized) (he : s.event.answer = .failed) :
      NextShape s i (raised .transportError (readFailed a s))
  /-- One write, completed. -/
  | writeDone (i : Instr) (a : SReg) (v : Word) (hl : i.layer = 1) (hn : i.isBegin = false)
      (hw : ∀ addr v, i ≠ .wrscratch addr v) (hb : s.initState ≠ .uninitialized) (ha : wrregAdmits a = true)
      (he : s.event.answer = .done) : NextShape s i (setOutputs okNothing (writeDone a v s))
  /-- One write, failed. -/
  | writeFailed (i : Instr) (a : SReg) (v : Word) (hl : i.layer = 1) (hn : i.isBegin = false)
      (hw : ∀ addr v, i ≠ .wrscratch addr v) (hb : s.initState ≠ .uninitialized) (ha : wrregAdmits a = true)
      (he : s.event.answer = .failed) : NextShape s i (raised .transportError (writeFailed a v s))
  /-- A setter whose two transactions completed. -/
  | setDone (i : Instr) (v : Word) (hl : i.layer = 1) (hn : i.isBegin = false)
      (hw : ∀ addr v, i ≠ .wrscratch addr v) (hb : s.initState ≠ .uninitialized)
      (he : s.event.answer = .done) (he' : (Machine.readDone .cfg s).event.answer = .done) :
      NextShape s i (setOutputs okNothing (Machine.writeDone .cfg v (Machine.readDone .cfg s)))
  /-- A setter whose write failed. -/
  | setFailed (i : Instr) (v : Word) (hl : i.layer = 1) (hn : i.isBegin = false)
      (hw : ∀ addr v, i ≠ .wrscratch addr v) (hb : s.initState ≠ .uninitialized)
      (he : s.event.answer = .done) (he' : (Machine.readDone .cfg s).event.answer = .failed) :
      NextShape s i (raised .transportError (Machine.writeFailed .cfg v (Machine.readDone .cfg s)))
  /-- `WRSCRATCH`, complete. -/
  | scratchDone (addr : Byte) (slot : SReg) (v : Word) (hb : s.initState ≠ .uninitialized)
      (ha : slotAt addr = some slot) (he : s.event.answer = .done) (he' : (unlockDone s).event.answer = .done)
      (he'' : (programDone (unlockDone s) slot v).event.answer = .done) :
      NextShape s (.wrscratch addr v) (setOutputs okNothing (lockDone (programDone (unlockDone s) slot v)))
  /-- `WRSCRATCH` whose unlock write failed. -/
  | unlockFailed (addr : Byte) (slot : SReg) (v : Word) (hb : s.initState ≠ .uninitialized)
      (ha : slotAt addr = some slot) (he : s.event.answer = .failed) :
      NextShape s (.wrscratch addr v)
        (raised .transportError (Machine.writeFailed .unlock unlockSentinel (setSeq .unlocking s)))
  /-- `WRSCRATCH` whose data write failed. -/
  | programFailed (addr : Byte) (slot : SReg) (v : Word) (hb : s.initState ≠ .uninitialized)
      (ha : slotAt addr = some slot) (he : s.event.answer = .done) (he' : (unlockDone s).event.answer = .failed) :
      NextShape s (.wrscratch addr v)
        (raised .transportError (Machine.writeFailed slot v (setSeq .writing (unlockDone s))))
  /-- `WRSCRATCH` whose lock write failed. -/
  | lockFailed (addr : Byte) (slot : SReg) (v : Word) (hb : s.initState ≠ .uninitialized)
      (ha : slotAt addr = some slot) (he : s.event.answer = .done) (he' : (unlockDone s).event.answer = .done)
      (he'' : (programDone (unlockDone s) slot v).event.answer = .failed) :
      NextShape s (.wrscratch addr v) (raised .transportError
        (Machine.writeFailed .unlock lockSentinel (setSeq .locking (programDone (unlockDone s) slot v))))
  /-- `BEGIN` whose probe failed. -/
  | probeFailed (a : BitVec 7) (clk : Nat) (pins : Option Nat) (hu : s.initState = .uninitialized)
      (ha : legalDevAddr a = true) (he : s.event.answer = .failed) :
      NextShape s (.beginHandle a clk pins)
        (raised .transportError (setInit .failed (Machine.readFailed .id (beginProbe a clk pins s))))
  /-- `BEGIN` whose probe returned an accepted identity. -/
  | probeAccepted (a : BitVec 7) (clk : Nat) (pins : Option Nat) (hu : s.initState = .uninitialized)
      (ha : legalDevAddr a = true) (he : s.event.answer = .done)
      (hi : acceptedId ((beginProbe a clk pins s).found .id).id = true) :
      NextShape s (.beginHandle a clk pins)
        (setOutputs okNothing (setInit .ready (Machine.readDone .id (beginProbe a clk pins s))))
  /-- `BEGIN` whose probe returned a third identity. -/
  | probeMismatch (a : BitVec 7) (clk : Nat) (pins : Option Nat) (hu : s.initState = .uninitialized)
      (ha : legalDevAddr a = true) (he : s.event.answer = .done)
      (hi : acceptedId ((beginProbe a clk pins s).found .id).id = false) :
      NextShape s (.beginHandle a clk pins)
        (raised .identityMismatch (setInit .failed (Machine.readDone .id (beginProbe a clk pins s))))

variable {s} {i : Instr} {t : State}

theorem nextShape_of_read {a : SReg} {o : Word → Outputs} (hl : i.layer = 1) (hn : i.isBegin = false)
    (hw : ∀ addr v, i ≠ .wrscratch addr v) (hb : s.initState ≠ .uninitialized) (ho : ∀ w, (o w).status = some .ok)
    (h : readAndFinish a o s = .next t) : NextShape s i t := by
  rcases readAndFinish_cases s a o with ⟨_, e⟩ | ⟨he, e⟩ | ⟨he, e⟩ <;> rw [e] at h <;> cases h
  · exact .readFailed i a hl hn hw hb he
  · exact .readDone i a _ hl hn hw hb he (ho _)

theorem nextShape_of_write {a : SReg} {v : Word} (hl : i.layer = 1) (hn : i.isBegin = false)
    (hw : ∀ addr v, i ≠ .wrscratch addr v) (hb : s.initState ≠ .uninitialized) (ha : wrregAdmits a = true)
    (h : writeAndFinish a v s = .next t) : NextShape s i t := by
  rcases writeAndFinish_cases s a v with ⟨_, e⟩ | ⟨he, e⟩ | ⟨he, e⟩ <;> rw [e] at h <;> cases h
  · exact .writeFailed i a v hl hn hw hb ha he
  · exact .writeDone i a v hl hn hw hb ha he

theorem nextShape_of_set {f : CfgField} {v : Word} (hl : i.layer = 1) (hn : i.isBegin = false)
    (hw : ∀ addr v, i ≠ .wrscratch addr v) (h : setField f v s = .next t) : NextShape s i t := by
  have hb := (onHandle_next h).1
  rcases setField_cases s hb f v with ⟨_, e⟩ | ⟨he, e⟩ | ⟨_, _, e⟩ | ⟨he, he', e⟩ | ⟨he, he', e⟩ <;>
    rw [e] at h <;> cases h
  · exact .readFailed i .cfg hl hn hw hb he
  · exact .setFailed i _ hl hn hw hb he he'
  · exact .setDone i _ hl hn hw hb he he'

theorem nextShape_of_get {f : CfgField} (hl : i.layer = 1) (hn : i.isBegin = false)
    (hw : ∀ addr v, i ≠ .wrscratch addr v) (h : getField f s = .next t) : NextShape s i t :=
  nextShape_of_read hl hn hw (onHandle_next h).1 (fun _ => rfl) (onHandle_next h).2

theorem nextShape_of_getScaled {a : SReg} (hl : i.layer = 1) (hn : i.isBegin = false)
    (hw : ∀ addr v, i ≠ .wrscratch addr v) (h : getScaled a s = .next t) : NextShape s i t :=
  nextShape_of_read hl hn hw (onHandle_next h).1 (fun _ => rfl) (onHandle_next h).2

theorem nextShape_of_setScaled {a : SReg} {x : Real32} (hl : i.layer = 1) (hn : i.isBegin = false)
    (hw : ∀ addr v, i ≠ .wrscratch addr v) (ha : wrregAdmits a = true) (h : setScaled a x s = .next t) :
    NextShape s i t :=
  nextShape_of_write hl hn hw (onHandle_next h).1 ha (onHandle_next h).2

theorem nextShape_of_rdreg {addr : Byte} (h : execRdreg addr s = .next t) : NextShape s (.rdreg addr) t := by
  obtain ⟨hb, h⟩ := onHandle_next h
  split at h
  · exact nextShape_of_read rfl rfl (by simp) hb (fun _ => rfl) h
  · cases h

theorem nextShape_of_wrreg {addr : Byte} {v : Word} (h : execWrreg addr v s = .next t) :
    NextShape s (.wrreg addr v) t := by
  obtain ⟨hb, h⟩ := onHandle_next h
  split at h
  · split at h
    · exact nextShape_of_write rfl rfl (by simp) hb ‹_› h
    · cases h
  · cases h

theorem nextShape_of_rdscratch {addr : Byte} (h : execRdscratch addr s = .next t) :
    NextShape s (.rdscratch addr) t := by
  obtain ⟨hb, h⟩ := onHandle_next h
  split at h
  · cases h; exact .badSlot _ addr hb ‹_› (.inl rfl)
  · exact nextShape_of_read rfl rfl (by simp) hb (fun _ => rfl) h

theorem nextShape_of_wrscratch {addr : Byte} {v : Word} (h : execWrscratch addr v s = .next t) :
    NextShape s (.wrscratch addr v) t := by
  have hb := (onHandle_next h).1
  cases ha : slotAt addr with
  | none =>
    have h' := (onHandle_next h).2
    simp only [ha] at h'
    cases h'
    exact .badSlot _ addr hb ha (.inr ⟨v, rfl⟩)
  | some slot =>
    rcases execWrscratch_cases s hb ha v with
      ⟨_, e⟩ | ⟨h0, e⟩ | ⟨h0, h1, e⟩ | ⟨h0, h1, h2, e⟩ | ⟨h0, h1, h2, e⟩ <;> rw [e] at h <;> cases h
    · exact .unlockFailed addr slot v hb ha h0
    · exact .programFailed addr slot v hb ha h0 h1
    · exact .lockFailed addr slot v hb ha h0 h1 h2
    · exact .scratchDone addr slot v hb ha h0 h1 h2

theorem nextShape_of_begin {a : BitVec 7} {clk : Nat} {pins : Option Nat}
    (h : execBeginHandle a clk pins s = .next t) : NextShape s (.beginHandle a clk pins) t := by
  rcases execBeginHandle_cases s a clk pins with
    ⟨_, e⟩ | ⟨_, _, e⟩ | ⟨hu, ha, ⟨_, e⟩ | ⟨he, e⟩ | ⟨he, hi, e⟩ | ⟨he, hi, e⟩⟩ <;> rw [e] at h <;> cases h
  · exact .probeFailed a clk pins hu ha he
  · exact .probeAccepted a clk pins hu ha he hi
  · exact .probeMismatch a clk pins hu ha he hi

/-- Every next state an operation can answer, and why: the provers derive each invariant from this. -/
theorem exec_next_shape (h : exec i s = .next t) : NextShape s i t := by
  cases i with
  | packMode c v | packRate c v | packAvg c v | packTa c v | packPol c v => cases h; exact .pure _ _ rfl rfl
  | unpackMode c | unpackRate c | unpackAvg c | unpackTa c | unpackPol c => cases h; exact .pure _ _ rfl rfl
  | raw2c c | c2raw c | c2f c | raw2f c => cases h; exact .pure _ _ rfl rfl
  | setMode v | setRate v | setAvg v | setTa v | setPol v => exact nextShape_of_set rfl rfl (by simp) h
  | getMode | getRate | getAvg | getTa | getPol => exact nextShape_of_get rfl rfl (by simp) h
  | rdreg a => exact nextShape_of_rdreg h
  | wrreg a v => exact nextShape_of_wrreg h
  | getTemp | getHigh | getLow | getOffset => exact nextShape_of_getScaled rfl rfl (by simp) h
  | setHigh x | setLow x | setOffset x => exact nextShape_of_setScaled rfl rfl (by simp) rfl h
  | resetSensor => exact nextShape_of_write rfl rfl (by simp) (onHandle_next h).1 rfl (onHandle_next h).2
  | getId => exact nextShape_of_read rfl rfl (by simp) (onHandle_next h).1 (fun _ => rfl) (onHandle_next h).2
  | beginHandle a clk pins => exact nextShape_of_begin h
  | wrscratch a v => exact nextShape_of_wrscratch h
  | rdscratch a => exact nextShape_of_rdscratch h

end Sys2Proof.Machine
end

