-- ==== Sys2Proof/Laws/PerInstr.lean ====
section
/-!
SUPPORT. One lemma per operation about its encoding: the selector stands on its port, and its high nibble is the class
of the operation's family (`30_encoding.md` R76).
-/

namespace Sys2Proof.Laws

/-- The class of the operation's family: 0 codec, 1 scaler, 2 configuration accessors, 3 register accessors,
4 sequencers (R76). -/
def SelectorClass.classOf : Instr → Nat
  | .packMode _ _ | .packRate _ _ | .packAvg _ _ | .packTa _ _ | .packPol _ _ => 0
  | .unpackMode _ | .unpackRate _ | .unpackAvg _ | .unpackTa _ | .unpackPol _ => 0
  | .raw2c _ | .c2raw _ | .c2f _ | .raw2f _ => 1
  | .setMode _ | .setRate _ | .setAvg _ | .setTa _ | .setPol _ => 2
  | .getMode | .getRate | .getAvg | .getTa | .getPol => 2
  | .rdreg _ | .wrreg _ _ => 3
  | .getTemp | .getHigh | .setHigh _ | .getLow | .setLow _ | .getOffset | .setOffset _ => 3
  | .resetSensor | .getId => 3
  | .beginHandle _ _ _ | .wrscratch _ _ | .rdscratch _ => 4

/-- The selector port of the encoded operation holds its selector, whose bits 7:4 are its class (R76). -/
def SelectorClass.Statement (i : Instr) : Prop :=
  (encode i).opsel = i.opsel ∧ i.opsel.toNat / 16 = SelectorClass.classOf i

theorem SelectorClass.packMode (cur val : Word) : SelectorClass.Statement (.packMode cur val) := ⟨rfl, by simp [Instr.opsel, classOf]⟩

theorem SelectorClass.packRate (cur val : Word) : SelectorClass.Statement (.packRate cur val) := ⟨rfl, by simp [Instr.opsel, classOf]⟩

theorem SelectorClass.packAvg (cur val : Word) : SelectorClass.Statement (.packAvg cur val) := ⟨rfl, by simp [Instr.opsel, classOf]⟩

theorem SelectorClass.packTa (cur val : Word) : SelectorClass.Statement (.packTa cur val) := ⟨rfl, by simp [Instr.opsel, classOf]⟩

theorem SelectorClass.packPol (cur val : Word) : SelectorClass.Statement (.packPol cur val) := ⟨rfl, by simp [Instr.opsel, classOf]⟩

theorem SelectorClass.unpackMode (cur : Word) : SelectorClass.Statement (.unpackMode cur) := ⟨rfl, by simp [Instr.opsel, classOf]⟩

theorem SelectorClass.unpackRate (cur : Word) : SelectorClass.Statement (.unpackRate cur) := ⟨rfl, by simp [Instr.opsel, classOf]⟩

theorem SelectorClass.unpackAvg (cur : Word) : SelectorClass.Statement (.unpackAvg cur) := ⟨rfl, by simp [Instr.opsel, classOf]⟩

theorem SelectorClass.unpackTa (cur : Word) : SelectorClass.Statement (.unpackTa cur) := ⟨rfl, by simp [Instr.opsel, classOf]⟩

theorem SelectorClass.unpackPol (cur : Word) : SelectorClass.Statement (.unpackPol cur) := ⟨rfl, by simp [Instr.opsel, classOf]⟩

theorem SelectorClass.raw2c (code : Word) : SelectorClass.Statement (.raw2c code) := ⟨rfl, by simp [Instr.opsel, classOf]⟩

theorem SelectorClass.c2raw (rin : Real32) : SelectorClass.Statement (.c2raw rin) := ⟨rfl, by simp [Instr.opsel, classOf]⟩

theorem SelectorClass.c2f (rin : Real32) : SelectorClass.Statement (.c2f rin) := ⟨rfl, by simp [Instr.opsel, classOf]⟩

theorem SelectorClass.raw2f (code : Word) : SelectorClass.Statement (.raw2f code) := ⟨rfl, by simp [Instr.opsel, classOf]⟩

theorem SelectorClass.setMode (val : Word) : SelectorClass.Statement (.setMode val) := ⟨rfl, by simp [Instr.opsel, classOf]⟩

theorem SelectorClass.setRate (val : Word) : SelectorClass.Statement (.setRate val) := ⟨rfl, by simp [Instr.opsel, classOf]⟩

theorem SelectorClass.setAvg (val : Word) : SelectorClass.Statement (.setAvg val) := ⟨rfl, by simp [Instr.opsel, classOf]⟩

theorem SelectorClass.setTa (val : Word) : SelectorClass.Statement (.setTa val) := ⟨rfl, by simp [Instr.opsel, classOf]⟩

theorem SelectorClass.setPol (val : Word) : SelectorClass.Statement (.setPol val) := ⟨rfl, by simp [Instr.opsel, classOf]⟩

theorem SelectorClass.getMode : SelectorClass.Statement (.getMode) := ⟨rfl, by simp [Instr.opsel, classOf]⟩

theorem SelectorClass.getRate : SelectorClass.Statement (.getRate) := ⟨rfl, by simp [Instr.opsel, classOf]⟩

theorem SelectorClass.getAvg : SelectorClass.Statement (.getAvg) := ⟨rfl, by simp [Instr.opsel, classOf]⟩

theorem SelectorClass.getTa : SelectorClass.Statement (.getTa) := ⟨rfl, by simp [Instr.opsel, classOf]⟩

theorem SelectorClass.getPol : SelectorClass.Statement (.getPol) := ⟨rfl, by simp [Instr.opsel, classOf]⟩

theorem SelectorClass.rdreg (addr : Byte) : SelectorClass.Statement (.rdreg addr) := ⟨rfl, by simp [Instr.opsel, classOf]⟩

theorem SelectorClass.wrreg (addr : Byte) (val : Word) : SelectorClass.Statement (.wrreg addr val) := ⟨rfl, by simp [Instr.opsel, classOf]⟩

theorem SelectorClass.getTemp : SelectorClass.Statement (.getTemp) := ⟨rfl, by simp [Instr.opsel, classOf]⟩

theorem SelectorClass.getHigh : SelectorClass.Statement (.getHigh) := ⟨rfl, by simp [Instr.opsel, classOf]⟩

theorem SelectorClass.setHigh (rin : Real32) : SelectorClass.Statement (.setHigh rin) := ⟨rfl, by simp [Instr.opsel, classOf]⟩

theorem SelectorClass.getLow : SelectorClass.Statement (.getLow) := ⟨rfl, by simp [Instr.opsel, classOf]⟩

theorem SelectorClass.setLow (rin : Real32) : SelectorClass.Statement (.setLow rin) := ⟨rfl, by simp [Instr.opsel, classOf]⟩

theorem SelectorClass.getOffset : SelectorClass.Statement (.getOffset) := ⟨rfl, by simp [Instr.opsel, classOf]⟩

theorem SelectorClass.setOffset (rin : Real32) : SelectorClass.Statement (.setOffset rin) := ⟨rfl, by simp [Instr.opsel, classOf]⟩

theorem SelectorClass.resetSensor : SelectorClass.Statement (.resetSensor) := ⟨rfl, by simp [Instr.opsel, classOf]⟩

theorem SelectorClass.getId : SelectorClass.Statement (.getId) := ⟨rfl, by simp [Instr.opsel, classOf]⟩

theorem SelectorClass.beginHandle (address : BitVec 7) (clk : Nat) (pins : Option Nat) : SelectorClass.Statement (.beginHandle address clk pins) := ⟨rfl, by simp [Instr.opsel, classOf]⟩

theorem SelectorClass.wrscratch (addr : Byte) (val : Word) : SelectorClass.Statement (.wrscratch addr val) := ⟨rfl, by simp [Instr.opsel, classOf]⟩

theorem SelectorClass.rdscratch (addr : Byte) : SelectorClass.Statement (.rdscratch addr) := ⟨rfl, by simp [Instr.opsel, classOf]⟩

end Sys2Proof.Laws
end

