-- ==== Sys2Proof/Tests/Slice0.lean ====
section
/-!
SUPPORT. The model's own tests: one ill-formed operand per check of `Instr.wf`, the word of every operation decoded, the
spec's vectors (`95_test_vectors.md`) on single steps, and for each obligation with hypotheses a state and operands that
meet them.
-/

namespace Sys2Proof.Tests

open Sys2Proof.Machine

/-! ### Helpers -/

/-- A ready handle at 0x48 on the reference sensor, whose `CFG` holds `cfg`. -/
def ready (cfg : Word) : State :=
  { State.reset with
    initState := .ready, devAddr := 0x48, kind := .reference, sensor := { Sensor.atReset with cfg := cfg } }

/-- The same, with these answers of the transport first. -/
def answering (cfg : Word) (l : List Answer) : State :=
  { ready cfg with script := l.map fun a => { changes := [], answer := a } }

/-- The same, with `w` in register `a`. -/
def holding (a : SReg) (w : Word) : State := { ready 0 with sensor := Sensor.atReset.set a w }

/-- A fresh handle on the reference sensor, whose `ID` holds `w`. -/
def fresh (w : Word) : State := { State.reset with kind := .reference, sensor := { Sensor.atReset with id := w } }

/-- The output ports of a next state. -/
def outs : Result → Option Outputs
  | .next t => some t.outputs
  | .fault _ | .refused _ => none

/-- The `STATUS` of a next state. -/
def statusOf : Result → Option Status
  | .next t => t.outputs.status
  | .fault _ | .refused _ => none

/-- The trace of a next state. -/
def traceOf : Result → Option (List BusRecord)
  | .next t => some t.trace
  | .fault _ | .refused _ => none

/-- A register of the sensor in a next state. -/
def regOf (a : SReg) : Result → Option Word
  | .next t => some (t.sensor.get a)
  | .fault _ | .refused _ => none

/-- `SEQ_STATE` of a next state. -/
def seqOf : Result → Option SeqState
  | .next t => some t.seqState
  | .fault _ | .refused _ => none

/-- Why an operation was refused. -/
def refusalOf : Result → Option Refusal
  | .refused r => some r
  | .next _ | .fault _ => none

/-- Why the machine stopped. -/
def faultOf : Result → Option Fault
  | .fault r => some r
  | .next _ | .refused _ => none

/-! ### Well-formedness: each check refuses an ill-formed operand and lets its neighbour pass -/

theorem test_wf_rdreg : (Instr.rdreg 0x09).wf = false ∧ (Instr.rdreg 0x08).wf = true ∧ (Instr.rdreg 0x10).wf = false ∧
    (Instr.rdreg 0x0F).wf = true := by decide

theorem test_wf_wrreg : (Instr.wrreg 0x00 1).wf = false ∧ (Instr.wrreg 0x05 1).wf = false ∧
    (Instr.wrreg 0x0F 1).wf = false ∧ (Instr.wrreg 0x07 1).wf = true := by decide

theorem test_wf_begin : (Instr.beginHandle 0x47 0 none).wf = false ∧ (Instr.beginHandle 0x4C 0 none).wf = false ∧
    (Instr.beginHandle 0x48 0 none).wf = true ∧ (Instr.beginHandle 0x4B 0 none).wf = true := by decide

/-! ### Decoding: the selectors of R80, bit by bit (class, direction, field or number: R76) -/

theorem test_decode_pack : decodeTableWord 8 0b00000000 = some (.packMode 0 0) ∧
    decodeTableWord 8 0b00000001 = some (.packRate 0 0) ∧ decodeTableWord 8 0b00000010 = some (.packAvg 0 0) ∧
    decodeTableWord 8 0b00000011 = some (.packTa 0 0) ∧ decodeTableWord 8 0b00000100 = some (.packPol 0 0) := by decide

theorem test_decode_unpack : decodeTableWord 8 0b00001000 = some (.unpackMode 0) ∧
    decodeTableWord 8 0b00001001 = some (.unpackRate 0) ∧ decodeTableWord 8 0b00001010 = some (.unpackAvg 0) ∧
    decodeTableWord 8 0b00001011 = some (.unpackTa 0) ∧ decodeTableWord 8 0b00001100 = some (.unpackPol 0) := by decide

theorem test_decode_scaler : decodeTableWord 8 0b00010000 = some (.raw2c 0) ∧
    decodeTableWord 8 0b00010001 = some (.c2raw 0) ∧ decodeTableWord 8 0b00010010 = some (.c2f 0) ∧
    decodeTableWord 8 0b00010011 = some (.raw2f 0) := by decide

theorem test_decode_setters : decodeTableWord 8 0b00100000 = some (.setMode 0) ∧
    decodeTableWord 8 0b00100001 = some (.setRate 0) ∧ decodeTableWord 8 0b00100010 = some (.setAvg 0) ∧
    decodeTableWord 8 0b00100011 = some (.setTa 0) ∧ decodeTableWord 8 0b00100100 = some (.setPol 0) := by decide

theorem test_decode_getters : decodeTableWord 8 0b00101000 = some .getMode ∧
    decodeTableWord 8 0b00101001 = some .getRate ∧ decodeTableWord 8 0b00101010 = some .getAvg ∧
    decodeTableWord 8 0b00101011 = some .getTa ∧ decodeTableWord 8 0b00101100 = some .getPol := by decide

theorem test_decode_registers : decodeTableWord 8 0b00110000 = some (.rdreg 0) ∧
    decodeTableWord 8 0b00110001 = some (.wrreg 0 0) ∧ decodeTableWord 8 0b00110010 = some .getTemp ∧
    decodeTableWord 8 0b00110011 = some .getHigh ∧ decodeTableWord 8 0b00110100 = some (.setHigh 0) ∧
    decodeTableWord 8 0b00110101 = some .getLow ∧ decodeTableWord 8 0b00110110 = some (.setLow 0) ∧
    decodeTableWord 8 0b00110111 = some .getOffset ∧ decodeTableWord 8 0b00111000 = some (.setOffset 0) ∧
    decodeTableWord 8 0b00111001 = some .resetSensor ∧ decodeTableWord 8 0b00111010 = some .getId := by decide

theorem test_decode_sequencers : decodeTableWord 8 0b01000000 = some (.beginHandle 0 0 none) ∧
    decodeTableWord 8 0b01000001 = some (.wrscratch 0 0) ∧ decodeTableWord 8 0b01000010 = some (.rdscratch 0) := by decide

theorem test_decode_reserved : decodeTableWord 8 0x05 = none ∧ decodeTableWord 8 0x0D = none ∧
    decodeTableWord 8 0x14 = none ∧ decodeTableWord 8 0x25 = none ∧ decodeTableWord 8 0x2D = none ∧
    decodeTableWord 8 0x3B = none ∧ decodeTableWord 8 0x43 = none ∧ decodeTableWord 8 0xFF = none := by decide

/-- `BEGIN` takes its device address from `ADDR[6:0]` (R210): bit 7 of the port is not part of it. -/
theorem test_decode_begin_ports : decode { opsel := 0x40, addr := 0xC9, clockSpeedHz := 400000 } =
    .ok (.beginHandle 0x49 400000 none) := by rfl

/-! ### Vectors of `95_test_vectors.md` -/

/-- V-C5, V-C26. -/
theorem test_pack_mode : outs (exec (.packMode 0x0220 7) (ready 0)) = some (ports none (some 0x0E20) none none) ∧
    outs (exec (.packMode 0xA5A5 2) (ready 0)) = some (ports none (some 0xA9A5) none none) := by decide

/-- V-C8, V-C10. -/
theorem test_pack_rate : outs (exec (.packRate 0xFFFF 0) (ready 0)) = some (ports none (some 0xFC7F) none none) ∧
    outs (exec (.packRate 0x0220 8) (ready 0)) = some (ports none (some 0x0020) none none) := by decide

/-- V-C15, V-C28. -/
theorem test_pack_avg : outs (exec (.packAvg 0x0220 6) (ready 0)) = some (ports none (some 0x0240) none none) ∧
    outs (exec (.packAvg 0xA5A5 2) (ready 0)) = some (ports none (some 0xA5C5) none none) := by decide

/-- V-C20, V-C21. -/
theorem test_pack_ta : outs (exec (.packTa 0x0220 3) (ready 0)) = some (ports none (some 0x0230) none none) ∧
    outs (exec (.packTa 0x0220 2) (ready 0)) = some (ports none (some 0x0220) none none) := by decide

/-- V-C25, V-C30. -/
theorem test_pack_pol : outs (exec (.packPol 0x0220 0xFFFE) (ready 0)) = some (ports none (some 0x0220) none none) ∧
    outs (exec (.packPol 0xA5A5 1) (ready 0)) = some (ports none (some 0xA5AD) none none) := by decide

/-- V-U4. -/
theorem test_unpack_a5a5 : outs (exec (.unpackMode 0xA5A5) (ready 0)) = some (ports none (some 1) none none) ∧
    outs (exec (.unpackRate 0xA5A5) (ready 0)) = some (ports none (some 3) none none) ∧
    outs (exec (.unpackAvg 0xA5A5) (ready 0)) = some (ports none (some 1) none none) ∧
    outs (exec (.unpackTa 0xA5A5) (ready 0)) = some (ports none (some 0) none none) ∧
    outs (exec (.unpackPol 0xA5A5) (ready 0)) = some (ports none (some 0) none none) := by decide

/-- V-U5. -/
theorem test_unpack_5a5a : outs (exec (.unpackMode 0x5A5A) (ready 0)) = some (ports none (some 2) none none) ∧
    outs (exec (.unpackRate 0x5A5A) (ready 0)) = some (ports none (some 4) none none) ∧
    outs (exec (.unpackAvg 0x5A5A) (ready 0)) = some (ports none (some 2) none none) ∧
    outs (exec (.unpackTa 0x5A5A) (ready 0)) = some (ports none (some 1) none none) ∧
    outs (exec (.unpackPol 0x5A5A) (ready 0)) = some (ports none (some 1) none none) := by decide

/-- V-S3, V-S8, V-S9. -/
theorem test_raw2c : outs (exec (.raw2c 0xFFFF) (ready 0)) = some (ports none none none (some 0xBC000000)) ∧
    outs (exec (.raw2c 0x7FFF) (ready 0)) = some (ports none none none (some 0x437FFE00)) ∧
    outs (exec (.raw2c 0x8000) (ready 0)) = some (ports none none none (some 0xC3800000)) := by decide

/-- V-S10, V-S12, V-S13: truncation toward zero. -/
theorem test_c2raw_truncates : outs (exec (.c2raw 0x42126666) (ready 0)) = some (ports none none (some 0x124C) none) ∧
    outs (exec (.c2raw 0xBC23D70A) (ready 0)) = some (ports none none (some 0xFFFF) none) ∧
    outs (exec (.c2raw 0xC2203333) (ready 0)) = some (ports none none (some 0xEBFA) none) := by decide +kernel

/-- V-S15, V-S20, V-S21, V-S23. -/
theorem test_c2raw_edges : outs (exec (.c2raw 0x80000000) (ready 0)) = some (ports none none (some 0) none) ∧
    outs (exec (.c2raw 0x437FFEFA) (ready 0)) = some (ports none none (some 0x7FFF) none) ∧
    outs (exec (.c2raw 0xC3800080) (ready 0)) = some (ports none none (some 0x8000) none) ∧
    outs (exec (.c2raw 0x00000001) (ready 0)) = some (ports none none (some 0) none) := by decide +kernel

/-- V-S22: outside the range no code is delivered by the rule. -/
theorem test_c2raw_out_of_range : c2rawInRange 0x43800000 = false ∧ c2rawInRange 0xC3800100 = false ∧ c2rawInRange 0x7F800000 = false ∧
    c2rawInRange 0x7FC00000 = false := by decide +kernel

/-- E-6, E-7. -/
theorem test_c2f_points : outs (exec (.c2f 0x00000000) (ready 0)) = some (ports none none none (some 0x42000000)) ∧
    outs (exec (.c2f 0x42C80000) (ready 0)) = some (ports none none none (some 0x43540000)) := by decide

/-- V-S28, V-S29. -/
theorem test_raw2f_points : outs (exec (.raw2f 0x0000) (ready 0)) = some (ports none none none (some 0x42000000)) ∧
    outs (exec (.raw2f 0x3200) (ready 0)) = some (ports none none none (some 0x43540000)) := by decide

/-- V-S26, V-S30, V-S41. -/
theorem test_candidates : c2fSingle (raw2c 0xF71C) = some 0xBBCCC000 ∧ c2fDouble (raw2c 0xF71C) = some 0xBBCCCCCD ∧
    c2fSingle (raw2c 0x0001) = some 0x42000E66 ∧ c2fDouble (raw2c 0x0001) = some 0x42000E66 ∧
    c2fSingle (raw2c 0xF71D) = some 0x3C000000 ∧ c2fDouble (raw2c 0xF71D) = some 0x3C000000 := by decide +kernel

/-- V-A1. -/
theorem test_set_mode : traceOf (exec (.setMode 3) (ready 0x0220)) = some [.writeThenRead 0 0x48 [0x01] 2 (some [0x02, 0x20]),
      .write 0 0x48 [0x01, 0x0E, 0x20] true] ∧
    regOf .cfg (exec (.setMode 3) (ready 0x0220)) = some 0x0E20 := by decide

/-- V-A4. -/
theorem test_set_rate : traceOf (exec (.setRate 8) (ready 0x0220)) = some [.writeThenRead 0 0x48 [0x01] 2 (some [0x02, 0x20]),
      .write 0 0x48 [0x01, 0x00, 0x20] true] ∧
    regOf .cfg (exec (.setRate 8) (ready 0x0220)) = some 0x0020 := by decide

/-- V-A6: the write is made though nothing changes. -/
theorem test_set_avg : traceOf (exec (.setAvg 1) (ready 0x0220)) = some [.writeThenRead 0 0x48 [0x01] 2 (some [0x02, 0x20]),
      .write 0 0x48 [0x01, 0x02, 0x20] true] ∧
    regOf .cfg (exec (.setAvg 1) (ready 0x0220)) = some 0x0220 := by decide

/-- V-A10. -/
theorem test_set_ta : traceOf (exec (.setTa 0) (ready 0xFFFF)) = some [.writeThenRead 0 0x48 [0x01] 2 (some [0xFF, 0xFF]),
      .write 0 0x48 [0x01, 0xFF, 0xEF] true] ∧
    regOf .cfg (exec (.setTa 0) (ready 0xFFFF)) = some 0xFFEF := by decide

/-- V-A9. -/
theorem test_set_pol : traceOf (exec (.setPol 1) (ready 0xA5A5)) = some [.writeThenRead 0 0x48 [0x01] 2 (some [0xA5, 0xA5]),
      .write 0 0x48 [0x01, 0xA5, 0xAD] true] ∧
    regOf .cfg (exec (.setPol 1) (ready 0xA5A5)) = some 0xA5AD := by decide

/-- V-A12. -/
theorem test_set_read_fails : statusOf (exec (.setMode 3) (answering 0x0220 [.failed])) = some .transportError ∧
    traceOf (exec (.setMode 3) (answering 0x0220 [.failed])) = some [.writeThenRead 0 0x48 [0x01] 2 none] := by decide

/-- V-A13. -/
theorem test_set_write_fails : statusOf (exec (.setMode 3) (answering 0x0220 [.done, .failed])) = some .transportError ∧
    traceOf (exec (.setMode 3) (answering 0x0220 [.done, .failed])) =
      some [.writeThenRead 0 0x48 [0x01] 2 (some [0x02, 0x20]), .write 0 0x48 [0x01, 0x0E, 0x20] false] := by decide

/-- V-A11. -/
theorem test_getters : outs (exec (.getMode) (ready 0xA5A5)) = some (ports (some .ok) (some 1) none none) ∧
    outs (exec (.getRate) (ready 0xA5A5)) = some (ports (some .ok) (some 3) none none) ∧
    outs (exec (.getAvg) (ready 0xA5A5)) = some (ports (some .ok) (some 1) none none) ∧
    outs (exec (.getTa) (ready 0xA5A5)) = some (ports (some .ok) (some 0) none none) ∧
    outs (exec (.getPol) (ready 0xA5A5)) = some (ports (some .ok) (some 0) none none) := by decide

/-- V-A14, V-A15: one read each, and its failure. -/
theorem test_get_one_read : traceOf (exec (.rdreg 0x01) (ready 0x0220)) = some [.writeThenRead 0 0x48 [0x01] 2 (some [0x02, 0x20])] ∧
    statusOf (exec .getRate (answering 0x0220 [.failed])) = some .transportError := by decide

/-- V-A16. -/
theorem test_wrreg : traceOf (exec (.wrreg 0x02 0x2800) (ready 0)) = some [.write 0 0x48 [0x02, 0x28, 0x00] true] ∧
    regOf .high (exec (.wrreg 0x02 0x2800) (ready 0)) = some 0x2800 := by decide

/-- V-A18. -/
theorem test_raw_access_refused : refusalOf (exec (.rdreg 0x09) (ready 0)) = some (.readAddress 0x09) ∧
    refusalOf (exec (.rdreg 0x10) (ready 0)) = some (.readAddress 0x10) ∧
    refusalOf (exec (.wrreg 0x00 1) (ready 0)) = some (.writeAddress 0x00) ∧
    refusalOf (exec (.wrreg 0x0F 1) (ready 0)) = some (.writeAddress 0x0F) ∧
    refusalOf (exec (.wrreg 0x05 1) (ready 0)) = some (.writeAddress 0x05) := by decide

/-- V-A17. -/
theorem test_reset_sensor : traceOf (exec .resetSensor (ready 0x0E68)) = some [.write 0 0x48 [0x01, 0x80, 0x00] true] ∧
    regOf .cfg (exec .resetSensor (ready 0x0E68)) = some 0x8000 := by decide

/-- V-R2, V-R4, V-R7, V-R10. -/
theorem test_get_scaled : outs (exec (.getTemp) (holding .temp 0xFFFF)) = some (ports (some .ok) none none (some 0xBC000000)) ∧
    outs (exec (.getHigh) (holding .high 0x2800)) = some (ports (some .ok) none none (some 0x42A00000)) ∧
    outs (exec (.getLow) (holding .low 0xFB00)) = some (ports (some .ok) none none (some 0xC1200000)) ∧
    outs (exec (.getOffset) (holding .offset 0xFFC0)) = some (ports (some .ok) none none (some 0xBF000000)) := by decide

/-- V-R3, V-R6, V-R8. -/
theorem test_set_scaled : traceOf (exec (.setHigh 0x42A00000) (ready 0)) = some [.write 0 0x48 [0x02, 0x28, 0x00] true] ∧
    traceOf (exec (.setLow 0xC1201062) (ready 0)) = some [.write 0 0x48 [0x03, 0xFB, 0x00] true] ∧
    traceOf (exec (.setOffset 0x3F000000) (ready 0)) = some [.write 0 0x48 [0x07, 0x00, 0x40] true] := by decide +kernel

/-- V-R13, on the word read. -/
theorem test_get_id : outs (exec (.getId) (holding .id 0x1234)) = some (ports (some .ok) (some 0x1234) none none) := by decide

/-- V-I5, V-I6. -/
theorem test_begin_refused : refusalOf (exec (.beginHandle 0x4C 0 none) (fresh 0)) = some (.beginAddress 0x4C) ∧
    refusalOf (exec (.beginHandle 0x48 0 none) (ready 0)) = some .beginAgain := by decide

/-- V-I4. -/
theorem test_begin_probe_fails : statusOf (exec (.beginHandle 0x4A 400000 none)
      { fresh 0 with script := [{ changes := [], answer := .failed }] }) = some .transportError := by decide

/-- V-I7. -/
theorem test_before_begin : refusalOf (exec .getMode (fresh 0)) = some .beforeBegin ∧
    refusalOf (exec (.wrscratch 0x07 1) (fresh 0)) = some .beforeBegin := by decide

/-- V-Q2. -/
theorem test_wrscratch : traceOf (exec (.wrscratch 0x05 0xBEEF) (ready 0)) = some [.write 0 0x48 [0x04, 0x80, 0x00] true, .wait 2,
      .write 0 0x48 [0x05, 0xBE, 0xEF] true, .wait 10, .write 0 0x48 [0x04, 0x00, 0x00] true] ∧
    regOf .scr1 (exec (.wrscratch 0x05 0xBEEF) (ready 0)) = some 0xBEEF ∧
    regOf .unlock (exec (.wrscratch 0x05 0xBEEF) (ready 0)) = some 0x0000 := by decide

/-- V-Q4, V-Q5, V-Q6: where each failed write leaves the sequencer. -/
theorem test_wrscratch_fails : seqOf (exec (.wrscratch 0x06 0x1234) (answering 0 [.done, .done, .failed])) = some .locking ∧
    regOf .scr2 (exec (.wrscratch 0x06 0x1234) (answering 0 [.done, .done, .failed])) = some 0x1234 ∧
    seqOf (exec (.wrscratch 0x06 0x1234) (answering 0 [.done, .failed])) = some .writing ∧
    regOf .unlock (exec (.wrscratch 0x06 0x1234) (answering 0 [.done, .failed])) = some 0x8000 ∧
    seqOf (exec (.wrscratch 0x06 0x1234) (answering 0 [.failed])) = some .unlocking := by decide

/-- V-Q1, V-Q8. -/
theorem test_scratch_invalid : statusOf (exec (.wrscratch 0x07 0xBEEF) (ready 0)) = some .invalidRegister ∧
    traceOf (exec (.wrscratch 0x07 0xBEEF) (ready 0)) = some [] ∧
    statusOf (exec (.rdscratch 0x04) (ready 0)) = some .invalidRegister := by decide

/-- V-Q7. -/
theorem test_rdscratch : outs (exec (.rdscratch 0x05) (holding .scr1 0xBEEF)) = some (ports (some .ok) (some 0xBEEF) none none) := by decide

/-- PRG-5c: the other master's 0x0228 is lost. -/
theorem test_lost_update : regOf .cfg (exec (.setMode 3) { ready 0x0220 with script := [BusEvent.quiet,
      { changes := [(.cfg, 0x0228)], answer := .done }] }) = some 0x0E20 := by decide

/-- R283: a transport that never answers. -/
theorem test_hang : faultOf (exec .getMode (answering 0 [.never])) = some .transportNeverReturns := by decide

/-- R52: one step serves the first request and leaves the others. -/
theorem test_step_serves_one_request : refusalOf (step { ready 0 with requests := [{ opsel := 0x05 }] }) = some (.reservedSelector 0x05) ∧
    outs (step { ready 0 with requests := [{ opsel := 0x00, cur := 0x0220, val := 3 }, { opsel := 0x28 }] }) =
      some (ports none (some 0x0E20) none none) := by decide

/-- The two identities differ (decision D10). -/
theorem test_identities_differ : Config.idA ≠ Config.idB := by
  unfold Config.idB
  split
  · intro h
    have := congrArg BitVec.toNat h
    have := Config.idA.isLt
    simp only [BitVec.toNat_add] at *
    have h1 : (1 : Word).toNat = 1 := rfl
    omega
  · intro h
    exact absurd h.symm ‹_›

/-- A word that is neither identity. -/
def thirdWord : Word :=
  if Config.idA ≠ 0 ∧ Config.idB ≠ 0 then 0 else if Config.idA ≠ 1 ∧ Config.idB ≠ 1 then 1 else 2

theorem test_third_word : thirdWord ≠ Config.idA ∧ thirdWord ≠ Config.idB := by
  unfold thirdWord
  generalize Config.idA = a
  generalize Config.idB = b
  split
  · rename_i h; exact ⟨fun e => h.1 e.symm, fun e => h.2 e.symm⟩
  · split
    · rename_i h; exact ⟨fun e => h.1 e.symm, fun e => h.2 e.symm⟩
    · rename_i h h'
      constructor <;> (rintro rfl; revert h h'; simp; try (intro h1 h2; subst_vars; simp_all))

/-- V-I1, V-I3: an accepted identity. -/
theorem test_begin_accepted : statusOf (exec (.beginHandle 0x48 400000 none) (fresh Config.idA)) = some .ok := by
  have hi : acceptedId ((beginProbe 0x48 400000 none (fresh Config.idA)).found .id).id = true := by
    change acceptedId Config.idA = true
    simp [acceptedId]
  rcases execBeginHandle_cases (fresh Config.idA) 0x48 400000 none with
    ⟨h, _⟩ | ⟨_, h, _⟩ | ⟨_, _, ⟨h, _⟩ | ⟨h, _⟩ | ⟨_, _, e⟩ | ⟨_, h, _⟩⟩
  · exact absurd rfl h
  · cases h
  · cases h
  · cases h
  · change statusOf (execBeginHandle _ _ _ _) = _
    rw [e]; rfl
  · rw [hi] at h; cases h

/-- V-I2: a third identity. -/
theorem test_begin_mismatch :
    statusOf (exec (.beginHandle 0x4B 0 (some 7)) (fresh thirdWord)) = some .identityMismatch := by
  have hi : acceptedId ((beginProbe 0x4B 0 (some 7) (fresh thirdWord)).found .id).id = false := by
    change acceptedId thirdWord = false
    simp [acceptedId, test_third_word.1, test_third_word.2]
  rcases execBeginHandle_cases (fresh thirdWord) 0x4B 0 (some 7) with
    ⟨h, _⟩ | ⟨_, h, _⟩ | ⟨_, _, ⟨h, _⟩ | ⟨h, _⟩ | ⟨_, h, _⟩ | ⟨_, _, e⟩⟩
  · exact absurd rfl h
  · cases h
  · cases h
  · cases h
  · rw [hi] at h; cases h
  · change statusOf (execBeginHandle _ _ _ _) = _
    rw [e]; rfl

/-! ### Witnesses: for each obligation with hypotheses, values that meet them -/

/-- UnpackOfPackIsTheMaskedValue: the greatest value of each field. -/
theorem witness_unpackOfPack (f : CfgField) : (fieldValueMask f).toNat ≤ 2 ^ fieldWidth f - 1 := by
  cases f <;> decide

/-- FieldsAreIndependent. -/
theorem witness_fieldsAreIndependent : CfgField.mode ≠ CfgField.rate := by decide

/-- WordsDecomposeIntoFields: the greatest value of each part. -/
theorem witness_wordsDecompose : (0xF007 : Word) &&& 0xF007 = 0xF007 ∧ (3 : Word).toNat ≤ 3 ∧ (7 : Word).toNat ≤ 7 ∧
    (3 : Word).toNat ≤ 3 ∧ (1 : Word).toNat ≤ 1 ∧ (1 : Word).toNat ≤ 1 := by decide

/-- EveryRawValueIsANamedSetting: two settings of one field with one raw value. -/
theorem witness_everyRawValue : settingField (.mode .shutdown) = settingField (.mode .shutdown) ∧
    settingRaw (.mode .shutdown) = settingRaw (.mode .shutdown) := by decide

/-- C2rawTruncatesTowardZero: the last binary32 value of the range on either side. -/
theorem witness_c2rawTruncates :
    (f32Finite 0x437FFFFF = true ∧ -32768 ≤ truncQ (f32Val 0x437FFFFF * 128) ∧
      truncQ (f32Val 0x437FFFFF * 128) ≤ 32767) ∧
    (f32Finite 0xC38000FF = true ∧ -32768 ≤ truncQ (f32Val 0xC38000FF * 128) ∧
      truncQ (f32Val 0xC38000FF * 128) ≤ 32767) := by decide +kernel

/-- ScalerRoundTrip, ReferenceSetThenGetTemperature: the last binary32 value of the range on either side. -/
theorem witness_inCodeRange : inCodeRange 0x437FFFFF ∧ inCodeRange 0xC38000FF ∧ inCodeRange 0x80000000 := by
  decide +kernel

/-- ScalerOrderAndSign: an ordered pair of opposite reals, and the last binary32 value below one count. -/
theorem witness_scalerOrder :
    (inCodeRange 0xC2203333 ∧ inCodeRange 0x42203333 ∧ f32Val 0xC2203333 ≤ f32Val 0x42203333 ∧
      f32Val 0x42203333 = -f32Val 0xC2203333 ∧ c2raw 0xC2203333 ≠ 0x8000) ∧
    (f32Finite 0x3BFFFFFF = true ∧ |f32Val 0x3BFFFFFF| < 1 / 128) := by decide +kernel

/-- LayerZeroDependsOnOperandsAlone: the first and the last row of the layer. -/
theorem witness_layerZero : (Instr.packMode 0 0).layer = 0 ∧ (Instr.raw2f 0).layer = 0 := by decide

/-- ReferenceSensorIsATable, ReferenceSetThenGetShowsTheField, ReferenceSetThenGetTemperature, ReferenceScratchReadsBack:
a ready handle on the reference sensor. -/
theorem witness_onReference : (ready 0).isReady ∧ (ready 0).onReference := ⟨rfl, rfl, rfl, rfl⟩

/-- Every obligation of one transaction (ReadsInto, WritesOnce): it completes; it fails. -/
theorem witness_oneTransaction : ((ready 0).isReady ∧ (ready 0).event.answer = .done) ∧
    ((answering 0 [.failed]).isReady ∧ (answering 0 [.failed]).event.answer = .failed) := by decide

/-- SettersReadInsertAndWriteBack (UpdatesCfg): both complete; the read fails; the write fails. -/
theorem witness_twoTransactions :
    ((ready 0).isReady ∧ ((ready 0).eventAt 0).answer = .done ∧ ((ready 0).eventAt 1).answer = .done) ∧
    ((answering 0 [.failed]).isReady ∧ ((answering 0 [.failed]).eventAt 0).answer = .failed) ∧
    ((answering 0 [.done, .failed]).isReady ∧ ((answering 0 [.done, .failed]).eventAt 0).answer = .done ∧
      ((answering 0 [.done, .failed]).eventAt 1).answer = .failed) := by decide

/-- RdregReadsTheNamedRegister, second clause: the addresses around the hole. -/
theorem witness_rdregRefused : ∀ a ∈ ([0x09, 0x0E, 0x10, 0xFF] : List Byte), 0x08 < a.toNat ∧ a.toNat ≠ 0x0F := by
  decide

/-- WrregWritesTheAdmittedRegisters, second clause: the addresses around the admitted ones. -/
theorem witness_wrregRefused : ∀ a ∈ ([0x00, 0x05, 0x06, 0x08, 0x0F, 0xFF] : List Byte),
    a ≠ 0x01 ∧ a ≠ 0x02 ∧ a ≠ 0x03 ∧ a ≠ 0x04 ∧ a ≠ 0x07 := by decide

/-- LostUpdateIsSilent: another master writes 0x0228 between the read and the write (PRG-5c). -/
theorem witness_lostUpdate :
    let s := { ready 0x0220 with script := [BusEvent.quiet, { changes := [(.cfg, 0x0228)], answer := .done }] }
    s.isReady ∧ s.kind = .reference ∧ s.eventAt s.pos = BusEvent.quiet ∧
      s.eventAt (s.pos + 1) = { changes := [(.cfg, 0x0228)], answer := .done } := by decide

/-- TheOracleMayAnswerAnything and the oracle clauses of ReferenceSetThenGetShowsTheField and
ReferenceSetThenGetTemperature: a ready handle on the oracle. -/
theorem witness_oracle : ({ ready 0 with kind := .oracle } : State).isReady ∧
    ({ ready 0 with kind := .oracle } : State).kind = .oracle ∧
    ({ ready 0 with kind := .oracle } : State).sensor.prog = none ∧ wrregAdmits .offset = true := by decide

/-- MostSignificantByteFirst: the next transaction completes. -/
theorem witness_nextCompletes : (ready 0).event.answer = .done := by decide

/-- BeginProbesOnceAndDecides: the refused clauses at the addresses around the legal ones. -/
theorem witness_beginRefused : (ready 0).initState ≠ .uninitialized ∧ (fresh 0).initState = .uninitialized ∧
    ∀ a ∈ ([0x47, 0x4C, 0x00, 0x7F] : List (BitVec 7)), a ≠ 0x48 ∧ a ≠ 0x49 ∧ a ≠ 0x4A ∧ a ≠ 0x4B := by decide

/-- BeginProbesOnceAndDecides: one accepted identity. -/
theorem witness_beginAccepted : (fresh Config.idA).initState = .uninitialized ∧
    (fresh Config.idA).event.answer = .done ∧ ((fresh Config.idA).found .id).id = Config.idA := ⟨rfl, rfl, rfl⟩

/-- BeginProbesOnceAndDecides: the other accepted identity. -/
theorem witness_beginAcceptedB : (fresh Config.idB).initState = .uninitialized ∧
    (fresh Config.idB).event.answer = .done ∧ ((fresh Config.idB).found .id).id = Config.idB := ⟨rfl, rfl, rfl⟩

/-- BeginProbesOnceAndDecides: a third identity; a failed probe. -/
theorem witness_beginFails :
    ((fresh thirdWord).initState = .uninitialized ∧ (fresh thirdWord).event.answer = .done ∧
      ((fresh thirdWord).found .id).id ≠ Config.idA ∧ ((fresh thirdWord).found .id).id ≠ Config.idB) ∧
    (let s := { fresh 0 with script := [{ changes := [], answer := .failed }] }
     s.initState = .uninitialized ∧ s.event.answer = .failed) :=
  ⟨⟨rfl, rfl, test_third_word.1, test_third_word.2⟩, rfl, rfl⟩

/-- InitStateMovesOnlyByBegin, BlockStateChangesOnlyWhereNamed, StatusCodesAreAsNumbered, EachErrorHasItsOwnRaisers: an
operation that answers a next state, on a bound and on a fresh handle (`BEGIN`: test_begin_accepted). -/
theorem witness_execNext : (∃ t, exec .getMode (ready 0) = .next t) ∧ (∃ t, exec (.packMode 0 0) State.reset = .next t) :=
  ⟨⟨_, rfl⟩, _, rfl⟩

/-- EachErrorHasItsOwnRaisers: a next state with each error (the third: test_begin_mismatch). -/
theorem witness_errors :
    (∃ t, exec (.rdscratch 0x07) (ready 0) = .next t ∧ t.outputs.status = some .invalidRegister) ∧
    (∃ t, exec .getId (answering 0 [.failed]) = .next t ∧ t.outputs.status = some .transportError) :=
  ⟨⟨_, rfl, rfl⟩, _, rfl, rfl⟩

/-- WrscratchRunsItsSteps, the complete run. -/
theorem witness_completes : (ready 0).isReady ∧ (ready 0).completes 3 := ⟨by decide, fun _ _ => rfl⟩

/-- WrscratchRunsItsSteps, the failing runs: the unlock write, the data write, the lock write fails. -/
theorem witness_wrscratchStops :
    ((answering 0 [.failed]).isReady ∧ ((answering 0 [.failed]).eventAt 0).answer = .failed) ∧
    (((answering 0 [.done, .failed]).eventAt 0).answer = .done ∧
      ((answering 0 [.done, .failed]).eventAt 1).answer = .failed) ∧
    (((answering 0 [.done, .done, .failed]).eventAt 0).answer = .done ∧
      ((answering 0 [.done, .done, .failed]).eventAt 1).answer = .done ∧
      ((answering 0 [.done, .done, .failed]).eventAt 2).answer = .failed) := by decide

/-- InvalidSlotMakesNoBusTraffic, WrscratchRunsItsSteps, RdscratchIsAPlainRead: the addresses around the slots. -/
theorem witness_invalidSlot : (ready 0).isReady ∧ ∀ a ∈ ([0x04, 0x07, 0x09, 0x00, 0xFF] : List Byte),
    a ≠ 0x05 ∧ a ≠ 0x06 ∧ a ≠ 0x08 := by decide

/-- SequencerPhasesMoveAsListed: each phase completes and fails. -/
theorem witness_phases :
    (∃ t, unlockPhase (ready 0) = .done () t) ∧ (∃ t, unlockPhase (answering 0 [.failed]) = .failed t) ∧
    (∃ t, programPhase .scr1 1 (ready 0) = .done () t) ∧
    (∃ t, programPhase .scr1 1 (answering 0 [.failed]) = .failed t) ∧
    (∃ t, lockPhase (ready 0) = .done () t) ∧ (∃ t, lockPhase (answering 0 [.failed]) = .failed t) :=
  ⟨⟨_, rfl⟩, ⟨_, rfl⟩, ⟨_, rfl⟩, ⟨_, rfl⟩, ⟨_, rfl⟩, _, rfl⟩

/-- CompleteWrscratchLeavesTheSensorLocked. -/
theorem witness_completeWrscratch :
    ∃ t, exec (.wrscratch 0x08 0xBEEF) (ready 0) = .next t ∧ t.outputs.status = some .ok := ⟨_, rfl, rfl⟩

/-- CompleteWrscratchLeavesTheSensorLocked, second clause, on the oracle. -/
theorem witness_scratchTakes :
    let s := { ready 0 with kind := .oracle, script := [BusEvent.quiet, BusEvent.quiet, BusEvent.quiet] }
    s.isReady ∧ s.completes 3 ∧ s.sensor.prog = none ∧ (s.eventAt (s.pos + 1)).changes = [] ∧
      (s.eventAt (s.pos + 2)).changes = [] := by decide

/-- OracleWritesReplaceTheRegister: an unlocked, settled sensor that programs no slot; a slot being programmed; a
transaction before which nothing happens, and one to `CFG` while a window is open (log 10). -/
theorem witness_oracleWrites :
    (let x := Sensor.atReset.set .unlock 0x8000
     x.unlock.getLsbD 15 = true ∧ x.settle = 0 ∧ x.prog = none) ∧
    ((0x8000 : Word).getLsbD 15 = true ∧ (0x7FFF : Word) ≠ 0x8000) ∧
    ({ Sensor.atReset with prog := some (.scr3, 10) } : Sensor).prog = some (.scr3, 10) ∧
    (let s := { ready 0 with kind := .oracle, script := [BusEvent.quiet] }
     s.kind = .oracle ∧ s.event.changes = [] ∧ s.sensor.prog = none) ∧
    (let s := { ready 0 with
        kind := .oracle, script := [BusEvent.quiet], sensor := { Sensor.atReset with prog := some (.scr1, 10) } }
     s.kind = .oracle ∧ s.event.changes = [] ∧ s.sensor.prog = some (.scr1, 10) ∧
      SReg.cfg ≠ .unlock ∧ SReg.cfg ≠ .scr1 ∧ SReg.cfg ≠ .scr2 ∧ SReg.cfg ≠ .scr3) := by
  refine ⟨⟨rfl, rfl, rfl⟩, by decide, rfl, ⟨rfl, rfl, rfl⟩, rfl, rfl, rfl, by decide⟩

/-- A slot written again while its own window is open holds the free value, and once the window has closed it holds the
word (R274, log 34). -/
theorem test_write_in_open_window :
    (({ Sensor.atReset with unlock := 0x8000, prog := some (.scr1, 8) } : Sensor).written .oracle 4 .scr1 7).scr1 =
      Config.afterUngatedWrite 4 .scr1 ∧
    ((({ Sensor.atReset with unlock := 0x8000, prog := some (.scr1, 8) } : Sensor).elapse 8).written
      .oracle 4 .scr1 7).scr1 = 7 := ⟨rfl, rfl⟩

/-- FailedHandleRunsLikeAReadyOne: a `Failed` handle, and what a ready one answers: a next state, a refusal, a fault. -/
theorem witness_failedHandle :
    ({ ready 0 with initState := .failed } : State).initState = .failed ∧ Instr.getMode.isBegin = false ∧
    (∃ t, exec .getMode (ready 0) = .next t) ∧ exec (.rdreg 0x09) (ready 0) = .refused (.readAddress 0x09) ∧
    exec .getMode (answering 0 [.never]) = .fault .transportNeverReturns := ⟨rfl, rfl, ⟨_, rfl⟩, rfl, rfl⟩

/-- EverySelectorReadsItsPorts: a request with every port in use. -/
theorem test_decode_reads_its_own_ports :
    decode { opsel := 0x00, cur := 1, val := 2, code := 3, rin := 4, addr := 5 } = .ok (.packMode 1 2) ∧
    decode { opsel := 0x41, cur := 1, val := 2, code := 3, rin := 4, addr := 5 } = .ok (.wrscratch 5 2) := ⟨rfl, rfl⟩

/-- StepRunsTheDecodedOperation: a request that decodes; no request. -/
theorem witness_stepRuns : ({ ready 0 with requests := [{ opsel := 0x28 }] } : State).requests = [{ opsel := 0x28 }] ∧
    decode { opsel := 0x28 } = .ok .getMode ∧ (ready 0).requests = [] := ⟨rfl, rfl, rfl⟩

/-- DecodeAndEncodeAgree: a request that decodes (test_decode_begin_ports is another) and an encoding. -/
theorem witness_decodes : decode { opsel := 0x31, addr := 0x07, val := 0xFFFF } = .ok (.wrreg 0x07 0xFFFF) ∧
    encode (.wrreg 0x07 0xFFFF) = encode (.wrreg 0x07 0xFFFF) := ⟨rfl, rfl⟩

/-- ReservedSelectorsAreRefused: the first and last selector of two reserved ranges, and their neighbours. -/
theorem witness_reserved : ∀ c ∈ ([0x05, 0x07, 0x43, 0xFF] : List Byte),
    refusalOf (step { ready 0 with requests := [{ opsel := c }] }) = some (.reservedSelector c) := by decide

/-- LayerOneBeforeBeginIsRefused: both clauses. -/
theorem witness_beforeBegin : State.reset.initState = .uninitialized ∧ Instr.getMode.layer = 1 ∧
    Instr.getMode.isBegin = false ∧ (Instr.packPol 0 0).layer = 0 := by decide

/-- OperationsEndIfTheTransportAnswers, third clause: an operation that is not refused meets a transport that never
answers. -/
theorem witness_hangs : Instr.getMode.layer = 1 ∧ ¬refuses .getMode (answering 0 [.never]) ∧
    (answering 0 [.never]).event.answer = .never := by
  refine ⟨rfl, ?_, rfl⟩
  rintro (⟨_, _, h⟩ | ⟨h, _⟩ | ⟨_, h, _⟩ | ⟨_, _, h, _⟩ | ⟨_, _, _, h, _⟩) <;> cases h

/-- OperationsEndIfTheTransportAnswers, first clause (the second: test_hang). -/
theorem witness_transportAnswers : (ready 0).transportAnswers := by
  intro n
  simp [State.eventAt, ready, State.reset, BusEvent.quiet]

/-- EveryStepOnlyAddsToTheTrace, EveryStepKeepsTheReferenceSensor: a step on the reference sensor. -/
theorem witness_step : ∃ t, ({ ready 0 with requests := [{ opsel := 0x24, val := 1 }] } : State).onReference ∧
    step { ready 0 with requests := [{ opsel := 0x24, val := 1 }] } = .next t := ⟨_, ⟨rfl, rfl, rfl⟩, rfl⟩

/-- EveryStepKeepsTheBlockInvariant: a ready handle about to run `WRSCRATCH`. -/
theorem witness_blockInvariant : ∃ t,
    ({ ready 0 with requests := [{ opsel := 0x41, addr := 0x06, val := 1 }] } : State).Inv ∧
    step { ready 0 with requests := [{ opsel := 0x41, addr := 0x06, val := 1 }] } = .next t :=
  ⟨_, ⟨by decide, .inl rfl, fun _ => rfl, (fun h => nomatch h), by decide⟩, rfl⟩

end Sys2Proof.Tests
end

/-!
PROOFS. The statements of `10_state.md`: the register map, the settings of the configuration fields, what an operation
changes of the block, and the block invariant.
-/

namespace Sys2Proof.Machine

/-! ### The register map -/

/-- `regAt` inverts `regAddr`, and finds a register nowhere else (R28, R38). -/
theorem regAt_eq_some_iff {b : Byte} {a : SReg} : regAt b = some a ↔ regAddr a = b :=
  ⟨regAddr_of_regAt, fun h => h ▸ regAt_regAddr a⟩

/-- Settles O19. -/
theorem registerMapIsAsGiven : Obligations.RegisterMapIsAsGiven :=
  ⟨⟨rfl, rfl, rfl, rfl, rfl, rfl, rfl, rfl, rfl, rfl⟩, fun _ _ => regAt_eq_some_iff⟩

/-! ### The settings of the configuration fields -/

/-- An unpacked value fits the width of its field (R102). -/
theorem unpack_toNat_lt (f : CfgField) (c : Word) : (unpack f c).toNat < 2 ^ fieldWidth f := by
  have hmask : (unpack f c).toNat ≤ (fieldValueMask f).toNat := by
    rw [unpack, BitVec.toNat_and]
    exact Nat.and_le_right
  have hwidth : (fieldValueMask f).toNat < 2 ^ fieldWidth f := by cases f <;> decide
  omega

/-- The setting of a field that has a given raw value; for a value the field cannot hold, some setting of it. -/
def settingOf : CfgField → Word → Setting
  | .mode, w => .mode
      (if w = 0 then .continuous else if w = 1 then .shutdown else if w = 2 then .continuousAlt else .oneShot)
  | .rate, w => .rate (Fin.ofNat 8 w.toNat)
  | .avg, w => .avg (if w = 0 then .none else if w = 1 then .avg8 else if w = 2 then .avg32 else .avg64)
  | .ta, w => .ta (if w = 0 then .alert else .therm)
  | .pol, w => .pol (if w = 0 then .activeLow else .activeHigh)

@[simp] theorem settingField_settingOf (f : CfgField) (w : Word) : settingField (settingOf f w) = f := by
  cases f <;> rfl

/-- The raw value of a rate is its number (R79). -/
@[simp] theorem settingRaw_rate_toNat (k : Fin 8) : (settingRaw (.rate k)).toNat = k.val := by
  rw [settingRaw, BitVec.toNat_ofNat]
  omega

/-- A setting is determined by its field and its raw value (R79). -/
theorem settingOf_settingRaw (v : Setting) : settingOf (settingField v) (settingRaw v) = v := by
  cases v with
  | rate k => simp [settingField, settingOf]
  | mode m => cases m <;> rfl
  | avg m => cases m <;> rfl
  | ta m => cases m <;> rfl
  | pol m => cases m <;> rfl

/-- Every value that fits the width of a field is the raw value of a setting of it (R30, R79). -/
theorem settingRaw_settingOf {f : CfgField} {w : Word} (h : w.toNat < 2 ^ fieldWidth f) :
    settingRaw (settingOf f w) = w := by
  apply BitVec.eq_of_toNat_eq
  cases f with
  | rate =>
    simp only [fieldWidth] at h
    simpa [settingOf] using h
  | mode | avg | ta | pol =>
    simp only [fieldWidth] at h
    simp only [settingOf]
    split_ifs <;> simp only [settingRaw] <;> bv_omega

/-- Settles O9: `settingOf` inverts `settingRaw` on each field. -/
theorem everyRawValueIsANamedSetting : Obligations.EveryRawValueIsANamedSetting := by
  refine ⟨⟨rfl, rfl, rfl, rfl⟩, settingRaw_rate_toNat, ⟨rfl, rfl, rfl, rfl⟩, ⟨rfl, rfl⟩, ⟨rfl, rfl⟩, ?_, ?_,
    fun _ => rfl, fun _ => rfl, fun _ => rfl, fun _ => rfl, fun _ => rfl⟩
  · intro f c
    exact ⟨settingOf f (unpack f c), settingField_settingOf f _, settingRaw_settingOf (unpack_toNat_lt f c)⟩
  · intro v w hfield hraw
    calc v = settingOf (settingField v) (settingRaw v) := (settingOf_settingRaw v).symm
      _ = settingOf (settingField w) (settingRaw w) := by rw [hfield, hraw]
      _ = w := settingOf_settingRaw w

/-! ### Layer 0 -/

/-- Settles O18: the meaning of each Layer 0 operation is `finish` of output ports made of its operands. -/
theorem layerZeroDependsOnOperandsAlone : Obligations.LayerZeroDependsOnOperandsAlone := by
  intro i hlayer
  cases i with
  | packMode c v | packRate c v | packAvg c v | packTa c v | packPol c v =>
    exact ⟨pureOut (pack _ c v), rfl, fun _ => rfl⟩
  | unpackMode c | unpackRate c | unpackAvg c | unpackTa c | unpackPol c =>
    exact ⟨pureOut (unpack _ c), rfl, fun _ => rfl⟩
  | raw2c c => exact ⟨pureRout (raw2c c), rfl, fun _ => rfl⟩
  | c2raw x => exact ⟨pureCodeOut (c2raw x), rfl, fun _ => rfl⟩
  | c2f x => exact ⟨pureRout (c2f x), rfl, fun _ => rfl⟩
  | raw2f c => exact ⟨pureRout (raw2f c), rfl, fun _ => rfl⟩
  | _ => cases hlayer

/-! ### One step -/

/-- A step with no request waiting idles (log 1). -/
theorem step_of_no_request {s : State} (h : s.requests = []) : step s = .next s := by
  simp only [step, h]

/-- A step serves the first request, when it decodes (R22). -/
theorem step_of_decode {s : State} {r : Request} {rest : List Request} {i : Instr} (hr : s.requests = r :: rest)
    (hd : decode r = .ok i) : step s = exec i { s with requests := rest } := by
  simp only [step, hr, hd]

/-- A step on a reserved selector is refused (R81). -/
theorem step_of_reserved {s : State} {r : Request} {rest : List Request} {op : Byte} (hr : s.requests = r :: rest)
    (hd : decode r = .error (.reservedSelector op)) : step s = .refused (.reservedSelector op) := by
  simp only [step, hr, hd]

/-- A step answers a next state in two ways: it idled, or an operation ran at the state without its request. -/
theorem step_next {s t : State} (h : step s = .next t) :
    t = s ∨ ∃ i rest, exec i { s with requests := rest } = .next t := by
  cases hr : s.requests with
  | nil =>
    rw [step_of_no_request hr] at h
    cases h
    exact .inl rfl
  | cons r rest =>
    rcases decode_cases r with ⟨i, hd, -⟩ | hd
    · rw [step_of_decode hr hd] at h
      exact .inr ⟨i, rest, h⟩
    · rw [step_of_reserved hr hd] at h
      cases h

/-- Settles O43. -/
theorem stepRunsTheDecodedOperation : Obligations.StepRunsTheDecodedOperation :=
  ⟨fun _ _ _ _ hr hd => step_of_decode hr hd, fun _ hr => step_of_no_request hr⟩

/-! ### What an operation leaves unchanged -/

section Frame

variable {s t : State} {i : Instr}

/-- Only `BEGIN` writes the handle (R24, R25). -/
theorem NextShape.handle_kept (h : NextShape s i t) (hi : i.isBegin = false) :
    t.initState = s.initState ∧ t.devAddr = s.devAddr ∧ t.busRef = s.busRef := by
  cases h with
  | pure | badSlot | readDone | readFailed | writeDone | writeFailed | setDone | setFailed => simp
  | scratchDone | unlockFailed | programFailed | lockFailed => simp
  | probeFailed | probeAccepted | probeMismatch => cases hi

/-- Only `WRSCRATCH` writes the sequencer (R26). -/
theorem NextShape.seqState_kept (h : NextShape s i t) (hi : ∀ a v, i ≠ .wrscratch a v) :
    t.seqState = s.seqState := by
  cases h with
  | pure | badSlot | readDone | readFailed | writeDone | writeFailed | setDone | setFailed => simp
  | scratchDone addr _ v | unlockFailed addr _ v | programFailed addr _ v | lockFailed addr _ v =>
    exact absurd rfl (hi addr v)
  | probeFailed | probeAccepted | probeMismatch => rfl

/-- No operation touches the waiting requests, the kind of sensor or the script (log 6, log 7). -/
theorem NextShape.inputs_kept (h : NextShape s i t) :
    t.requests = s.requests ∧ t.kind = s.kind ∧ t.script = s.script := by
  cases h <;> simp

end Frame

/-- Settles O53. -/
theorem blockStateChangesOnlyWhereNamed : Obligations.BlockStateChangesOnlyWhereNamed := by
  intro i s t h
  have hshape := exec_next_shape h
  exact ⟨hshape.handle_kept, hshape.seqState_kept, hshape.inputs_kept⟩

/-! ### The waits owed along a trace -/

/-- The calls `l` skip no wait, and `o` is owed after them (R274, R275). -/
def Owes (l : List BusRecord) (o : Owed) : Prop := Owed.zero.afterAll l = some o

theorem Owed.afterAll_append (o : Owed) (l m : List BusRecord) :
    o.afterAll (l ++ m) = (o.afterAll l).bind fun o' => o'.afterAll m := by
  induction l generalizing o with
  | nil => rfl
  | cons r l ih =>
    rw [List.cons_append, afterAll, afterAll]
    cases o.after r with
    | none => rfl
    | some o' => exact ih o'

/-- One more call. -/
theorem Owes.snoc {l : List BusRecord} {o o' : Owed} {r : BusRecord} (h : Owes l o) (hr : o.after r = some o') :
    Owes (l ++ [r]) o' := by
  simp only [Owes] at h ⊢
  simp [Owed.afterAll_append, h, Owed.afterAll, hr]

/-- The waits are kept exactly if some debt is reached that owes the programming window nothing. -/
theorem waitsKept_iff {l : List BusRecord} : waitsKept l = true ↔ ∃ n, Owes l { settle := n, program := 0 } := by
  simp only [waitsKept, Owes]
  cases Owed.zero.afterAll l with
  | none => simp
  | some o => cases o; simp

theorem Owes.waitsKept {l : List BusRecord} (h : Owes l Owed.zero) : waitsKept l = true := waitsKept_iff.mpr ⟨0, h⟩

/-- A call that keeps the waits wherever no programming window is open. -/
def BusRecord.KeepsWaits (r : BusRecord) : Prop :=
  ∀ n, ∃ m, ({ settle := n, program := 0 } : Owed).after r = some { settle := m, program := 0 }

theorem waitsKept_snoc {l : List BusRecord} {r : BusRecord} (h : waitsKept l = true) (hr : r.KeepsWaits) :
    waitsKept (l ++ [r]) = true := by
  obtain ⟨n, hn⟩ := waitsKept_iff.mp h
  obtain ⟨m, hm⟩ := hr n
  exact waitsKept_iff.mpr ⟨m, hn.snoc hm⟩

section Calls

variable {a : SReg} (bus : Nat) (dev : BitVec 7) (hi lo : Byte) (ok : Bool)

theorem keepsWaits_configure (clk : Nat) (pins : Option Nat) : (BusRecord.configure bus clk pins).KeepsWaits :=
  fun n => ⟨n, rfl⟩

/-- A register read owes nothing (R274). -/
theorem keepsWaits_read (a : SReg) (k : Nat) (got : Option (List Byte)) :
    (BusRecord.writeThenRead bus dev [regAddr a] k got).KeepsWaits :=
  fun n => ⟨n, by simp [Owed.after]⟩

/-- What a write of `UNLOCK` leaves owed (R275). -/
theorem Owed.after_unlock (n : Nat) :
    ({ settle := n, program := 0 } : Owed).after (.write bus dev [regAddr .unlock, hi, lo] ok) =
      some { settle := if ok then (if hi.getLsbD 7 then tSettle else 0) else n, program := 0 } := by
  cases ok <;> simp [Owed.after, isSlot]

/-- What a write of a slot leaves owed, where nothing was owed before it (R274; log 33). -/
theorem Owed.after_slot (ha : isSlot a = true) :
    Owed.zero.after (.write bus dev [regAddr a, hi, lo] ok) =
      some { settle := 0, program := if ok then tProgram else 0 } := by
  cases ok <;> simp [Owed.after, ha, Owed.zero]

/-- A write to a register that is no slot opens no programming window (R274). -/
theorem keepsWaits_write (ha : isSlot a = false) :
    (BusRecord.write bus dev [regAddr a, hi, lo] ok).KeepsWaits := by
  intro n
  by_cases hu : a = .unlock
  · subst hu
    exact ⟨_, Owed.after_unlock bus dev hi lo ok n⟩
  · exact ⟨n, by simp [Owed.after, ha, hu]⟩

end Calls

/-- `WRREG` admits no slot (R37). -/
theorem isSlot_of_wrregAdmits {a : SReg} (h : wrregAdmits a = true) : isSlot a = false := by
  cases a with
  | cfg | high | low | unlock | offset => rfl
  | temp | scr1 | scr2 | scr3 | id => cases h

section Transactions

variable {s : State} {a : SReg}

theorem waitsKept_readDone (h : waitsKept s.trace = true) : waitsKept (readDone a s).trace = true :=
  waitsKept_snoc h (keepsWaits_read _ _ _ _ _)

theorem waitsKept_readFailed (h : waitsKept s.trace = true) : waitsKept (readFailed a s).trace = true :=
  waitsKept_snoc h (keepsWaits_read _ _ _ _ _)

theorem waitsKept_writeDone {v : Word} (ha : isSlot a = false) (h : waitsKept s.trace = true) :
    waitsKept (writeDone a v s).trace = true :=
  waitsKept_snoc h (keepsWaits_write _ _ _ _ _ ha)

theorem waitsKept_writeFailed {v : Word} (ha : isSlot a = false) (h : waitsKept s.trace = true) :
    waitsKept (writeFailed a v s).trace = true :=
  waitsKept_snoc h (keepsWaits_write _ _ _ _ _ ha)

theorem waitsKept_beginProbe {d : BitVec 7} {clk : Nat} {pins : Option Nat} (h : waitsKept s.trace = true) :
    waitsKept (beginProbe d clk pins s).trace = true :=
  waitsKept_snoc h (keepsWaits_configure _ _ _)

/-- The settle wait pays what the unlock owes (R217, R275). -/
theorem owes_unlockDone (h : waitsKept s.trace = true) : Owes (unlockDone s).trace Owed.zero := by
  obtain ⟨n, hn⟩ := waitsKept_iff.mp h
  have hwrite := hn.snoc (Owed.after_unlock s.busRef s.devAddr (hiByte unlockSentinel) (loByte unlockSentinel) true n)
  exact hwrite.snoc (r := .wait tSettle) (by simp only [Owed.after, Owed.zero]; split_ifs <;> simp)

variable {slot : SReg} {v : Word}

/-- The programming wait pays what the data write owes (R217, R274). -/
theorem owes_programDone (hslot : isSlot slot = true) (h : Owes s.trace Owed.zero) :
    Owes (programDone s slot v).trace Owed.zero := by
  have hwrite := h.snoc (Owed.after_slot s.busRef s.devAddr (hiByte v) (loByte v) true hslot)
  exact hwrite.snoc (r := .wait tProgram) (by simp [Owed.after, Owed.zero])

/-- A failed data write owes nothing (log 33). -/
theorem waitsKept_slotFailed (hslot : isSlot slot = true) (h : Owes s.trace Owed.zero) :
    waitsKept (writeFailed slot v s).trace = true :=
  waitsKept_iff.mpr ⟨0, h.snoc (Owed.after_slot s.busRef s.devAddr (hiByte v) (loByte v) false hslot)⟩

end Transactions

/-! ### The block invariant -/

/-- The states in which the sequencer rests between operations (R26, R214). -/
def SeqState.Rests (q : SeqState) : Prop := q = .locked ∨ q = .unlocking ∨ q = .writing ∨ q = .locking

section Invariant

variable {s t : State} {i : Instr}

/-- On a bound handle that stays as it was, only the sequencer and the trace are left to look at. -/
theorem State.Inv.of_bound (hs : s.Inv) (hb : s.initState ≠ .uninitialized) (hinit : t.initState = s.initState)
    (hdev : t.devAddr = s.devAddr) (hseq : t.seqState.Rests) (hwaits : waitsKept t.trace = true) : t.Inv where
  boundary := hinit ▸ hs.boundary
  sequencer := hseq
  address := fun _ => hdev ▸ hs.address hb
  fresh := fun h => absurd (hinit ▸ h) hb
  waits := hwaits

/-- A handle that `BEGIN` has just bound. -/
theorem State.Inv.of_begin (hinit : t.initState = .ready ∨ t.initState = .failed)
    (hdev : legalDevAddr t.devAddr = true) (hseq : t.seqState.Rests) (hwaits : waitsKept t.trace = true) : t.Inv where
  boundary := by rcases hinit with h | h <;> simp [h]
  sequencer := hseq
  address := fun _ => hdev
  fresh := fun hu => by rcases hinit with h | h <;> simp [h] at hu
  waits := hwaits

/-- The invariant does not look at the output ports. -/
theorem State.Inv.setOutputs (hs : s.Inv) (o : Outputs) : (setOutputs o s).Inv :=
  ⟨hs.boundary, hs.sequencer, hs.address, hs.fresh, hs.waits⟩

/-- The invariant does not look at the waiting requests. -/
theorem State.Inv.withRequests (hs : s.Inv) (l : List Request) : State.Inv { s with requests := l } :=
  ⟨hs.boundary, hs.sequencer, hs.address, hs.fresh, hs.waits⟩

/-- Every shape of next state keeps the invariant. -/
theorem NextShape.keeps_inv (h : NextShape s i t) (hs : s.Inv) : t.Inv := by
  have hw := hs.waits
  cases h with
  | pure _ o => exact hs.setOutputs o
  | badSlot _ _ hb => exact hs.of_bound hb rfl rfl hs.sequencer hw
  | readDone _ _ _ _ _ _ hb => exact hs.of_bound hb rfl rfl hs.sequencer (waitsKept_readDone hw)
  | readFailed _ _ _ _ _ hb => exact hs.of_bound hb rfl rfl hs.sequencer (waitsKept_readFailed hw)
  | writeDone _ _ _ _ _ _ hb ha =>
    exact hs.of_bound hb rfl rfl hs.sequencer (waitsKept_writeDone (isSlot_of_wrregAdmits ha) hw)
  | writeFailed _ _ _ _ _ _ hb ha =>
    exact hs.of_bound hb rfl rfl hs.sequencer (waitsKept_writeFailed (isSlot_of_wrregAdmits ha) hw)
  | setDone _ _ _ _ _ hb =>
    exact hs.of_bound hb rfl rfl hs.sequencer (waitsKept_writeDone rfl (waitsKept_readDone hw))
  | setFailed _ _ _ _ _ hb =>
    exact hs.of_bound hb rfl rfl hs.sequencer (waitsKept_writeFailed rfl (waitsKept_readDone hw))
  | scratchDone _ _ v hb ha =>
    obtain ⟨-, hslot⟩ := slotAt_eq_some.mp ha
    have hprogram := owes_programDone (v := v) hslot (owes_unlockDone hw)
    exact hs.of_bound hb (by simp) (by simp) (by simp [SeqState.Rests])
      (waitsKept_writeDone rfl hprogram.waitsKept)
  | unlockFailed _ _ _ hb =>
    exact hs.of_bound hb (by simp) (by simp) (by simp [SeqState.Rests])
      (waitsKept_writeFailed rfl hw)
  | programFailed _ _ _ hb ha =>
    obtain ⟨-, hslot⟩ := slotAt_eq_some.mp ha
    exact hs.of_bound hb (by simp) (by simp) (by simp [SeqState.Rests])
      (waitsKept_slotFailed hslot (owes_unlockDone hw))
  | lockFailed _ _ v hb ha =>
    obtain ⟨-, hslot⟩ := slotAt_eq_some.mp ha
    have hprogram := owes_programDone (v := v) hslot (owes_unlockDone hw)
    exact hs.of_bound hb (by simp) (by simp) (by simp [SeqState.Rests])
      (waitsKept_writeFailed rfl hprogram.waitsKept)
  | probeFailed _ _ _ _ ha =>
    exact .of_begin (.inr rfl) ha hs.sequencer (waitsKept_readFailed (waitsKept_beginProbe hw))
  | probeAccepted _ _ _ _ ha =>
    exact .of_begin (.inl rfl) ha hs.sequencer (waitsKept_readDone (waitsKept_beginProbe hw))
  | probeMismatch _ _ _ _ ha =>
    exact .of_begin (.inr rfl) ha hs.sequencer (waitsKept_readDone (waitsKept_beginProbe hw))

end Invariant

/-- Settles O56: every shape of next state keeps the invariant. -/
theorem everyStepKeepsTheBlockInvariant : Obligations.EveryStepKeepsTheBlockInvariant := by
  intro s t hs h
  rcases step_next h with rfl | ⟨i, rest, hexec⟩
  · exact hs
  · exact (exec_next_shape hexec).keeps_inv (hs.withRequests rest)

end Sys2Proof.Machine

/-!
PROOFS. The statements of `20_memory.md`: byte order, the reference sensor, the oracle, and what each step adds to the
trace.
-/

namespace Sys2Proof.Machine

/-! ### Byte order -/

/-- The high byte of a word, as a number (R46). -/
theorem hiByte_toNat (w : Word) : (hiByte w).toNat = w.toNat / 256 := by
  have h := w.isLt
  simp only [hiByte, BitVec.extractLsb'_toNat, Nat.shiftRight_eq_div_pow]
  omega

/-- The low byte of a word, as a number (R46). -/
theorem loByte_toNat (w : Word) : (loByte w).toNat = w.toNat % 256 := by
  simp [loByte, BitVec.extractLsb'_toNat]

/-- Settles O20: the two bytes of a word make it up again, high one first. -/
theorem mostSignificantByteFirst : Obligations.MostSignificantByteFirst := by
  refine ⟨?_, ?_, wordOfBytes_toNat, wordOfBytes_hi_lo⟩
  · intro a s hdone
    have hword := wordOfBytes_toNat (hiByte ((s.found a).get a)) (loByte ((s.found a).get a))
    rw [wordOfBytes_hi_lo] at hword
    exact ⟨_, _, _, readDone a s, memRead_done hdone, hword, rfl, readDone_trace s a⟩
  · intro a v s hdone
    exact ⟨hiByte v, loByte v, writeDone a v s, memWrite_done hdone, hiByte_toNat v, loByte_toNat v,
      writeDone_trace s a v⟩

/-! ### What a transaction finds -/

/-- A register after another one, or the same, was set. -/
theorem Sensor.get_set (x : Sensor) (a b : SReg) (v : Word) :
    (x.set a v).get b = if b = a then v else x.get b := by
  split
  · next h => rw [h, Sensor.get_set_same]
  · next h => rw [Sensor.get_set_other x h]

section Found

variable {k : SensorKind} {n : Nat} {a : SReg} {x : Sensor} {s : State}

/-- The slots are the three scratch registers (R35). -/
theorem isSlot_iff : isSlot a = true ↔ a = .scr1 ∨ a = .scr2 ∨ a = .scr3 := by
  cases a <;> simp [isSlot]

/-- The region of the programming window is `UNLOCK` and the slots (R274; log 10). -/
theorem inScratchRegion_eq_false_iff :
    inScratchRegion a = false ↔ a ≠ .unlock ∧ a ≠ .scr1 ∧ a ≠ .scr2 ∧ a ≠ .scr3 := by
  cases a <;> simp [inScratchRegion, isSlot]

/-- With no programming window open a transaction violates none (R274). -/
theorem Sensor.touch_of_no_window (h : x.prog = none) : x.touch k n a = x := by
  cases k with
  | reference => rfl
  | oracle => simp [Sensor.touch, h]

/-- A transaction outside the slots and `UNLOCK` violates no window (R274; log 10). -/
theorem Sensor.touch_of_outside (h : inScratchRegion a = false) : x.touch k n a = x := by
  cases k with
  | reference => rfl
  | oracle => simp [Sensor.touch, h]

/-- The environment's changes move no mark (log 36). -/
@[simp] theorem Sensor.applyChanges_prog (x : Sensor) (l : List (SReg × Word)) :
    (x.applyChanges l).prog = x.prog := by
  induction l generalizing x with
  | nil => rfl
  | cons c l ih => rw [Sensor.applyChanges, ih, Sensor.set_prog]

/-- With no window open a transaction finds what the environment's changes left. -/
theorem State.found_of_no_window (h : s.sensor.prog = none) (a : SReg) :
    s.found a = s.sensor.applyChanges s.event.changes :=
  Sensor.touch_of_no_window (by rw [Sensor.applyChanges_prog, h])

/-- A transaction that violates no window and before which the environment changes nothing finds the sensor as it
was. -/
theorem State.found_of_no_changes (hc : s.event.changes = [])
    (h : s.sensor.prog = none ∨ inScratchRegion a = false) : s.found a = s.sensor := by
  rw [State.found, Sensor.arrive, hc, Sensor.applyChanges]
  rcases h with h | h
  · exact Sensor.touch_of_no_window h
  · exact Sensor.touch_of_outside h

end Found

/-! ### The reference sensor -/

section Reference

variable {s t : State} {i : Instr}

/-- Nothing disturbs the reference sensor (R51). -/
theorem State.onReference.eventAt (hs : s.onReference) (n : Nat) : s.eventAt n = BusEvent.quiet := by
  simp [State.eventAt, hs.script, hs.kind]

/-- No transaction with the reference sensor fails (R51). -/
theorem State.onReference.answer (hs : s.onReference) : s.event.answer = .done := by
  rw [event_eq, hs.eventAt]
  rfl

theorem State.onReference.not_failed (hs : s.onReference) : s.event.answer ≠ .failed := by
  simp [hs.answer]

/-- A transaction finds the table of the reference sensor as it stands (R51). -/
theorem State.onReference.found (hs : s.onReference) (a : SReg) : s.found a = s.sensor := by
  rw [State.found, event_eq, hs.eventAt, hs.kind]
  rfl

/-- A write the reference sensor takes: to a plain register, or to a slot while it is unlocked (R51). -/
abbrev Sensor.Takes (x : Sensor) (a : SReg) : Prop :=
  a = .cfg ∨ a = .high ∨ a = .low ∨ a = .unlock ∨ a = .offset ∨
    ((a = .scr1 ∨ a = .scr2 ∨ a = .scr3) ∧ x.unlock.getLsbD 15 = true)

theorem Sensor.store_reference_of_takes {x : Sensor} {a : SReg} (h : x.Takes a) (n : Nat) (v : Word) :
    x.store .reference n a v = x.set a v := by
  rcases h with rfl | rfl | rfl | rfl | rfl | ⟨hslot, hu⟩
  · rfl
  · rfl
  · rfl
  · rfl
  · rfl
  · rcases hslot with rfl | rfl | rfl <;> exact if_pos hu

theorem Sensor.store_reference_of_not_takes {x : Sensor} {a : SReg} (h : ¬x.Takes a) (n : Nat) (v : Word) :
    x.store .reference n a v = x := by
  cases a with
  | temp | id => rfl
  | cfg | high | low | unlock | offset => simp [Sensor.Takes] at h
  | scr1 | scr2 | scr3 => exact if_neg fun hu => h (by simpa [Sensor.Takes, Sensor.isUnlocked] using hu)

/-- Each register of the reference sensor after a completed write (R51). -/
theorem Sensor.get_written_reference (n : Nat) (a b : SReg) (v : Word) (x : Sensor) :
    (x.written .reference n a v).get b =
      if b = a ∧ (a = .cfg ∨ a = .high ∨ a = .low ∨ a = .unlock ∨ a = .offset ∨
          ((a = .scr1 ∨ a = .scr2 ∨ a = .scr3) ∧ x.unlock.getLsbD 15 = true))
      then v else x.get b := by
  rw [Sensor.written, Sensor.get_mark]
  change _ = if b = a ∧ x.Takes a then v else x.get b
  by_cases h : x.Takes a
  · simp only [Sensor.store_reference_of_takes h, Sensor.get_set, h, and_true]
  · simp only [Sensor.store_reference_of_not_takes h, h, and_false, if_false]

/-- Settles O21: nothing disturbs a transaction, and a write either sets its register or changes none. -/
theorem referenceSensorIsATable : Obligations.ReferenceSensorIsATable :=
  ⟨fun _ a hs => ⟨hs.answer, hs.found a⟩, Sensor.get_written_reference⟩

/-- No completed write changes the identity of the reference sensor (R51). -/
theorem Sensor.written_reference_id (n : Nat) (a : SReg) (v : Word) (x : Sensor) :
    (x.written .reference n a v).id = x.id := by
  have hid := Sensor.get_written_reference n a .id v x
  rwa [if_neg (by rintro ⟨rfl, h⟩; simp at h)] at hid

theorem State.onReference.readDone (hs : s.onReference) (a : SReg) : (readDone a s).onReference :=
  ⟨hs.kind, hs.script, by rw [readDone_sensor, hs.found]; exact hs.ident⟩

theorem State.onReference.writeDone (hs : s.onReference) (a : SReg) (v : Word) : (writeDone a v s).onReference :=
  ⟨hs.kind, hs.script, by rw [writeDone_sensor, hs.found, hs.kind, Sensor.written_reference_id]; exact hs.ident⟩

/-- What the block does between transactions reaches neither the script nor the kind of sensor nor `ID`. -/
theorem State.onReference.congr (hs : s.onReference) (hkind : t.kind = s.kind) (hscript : t.script = s.script)
    (hid : t.sensor.id = s.sensor.id) : t.onReference :=
  ⟨hkind ▸ hs.kind, hscript ▸ hs.script, hid ▸ hs.ident⟩

theorem State.onReference.setSeq (hs : s.onReference) (v : SeqState) : (setSeq v s).onReference :=
  hs.congr rfl rfl rfl

theorem State.onReference.setOutputs (hs : s.onReference) (o : Outputs) : (setOutputs o s).onReference :=
  hs.congr rfl rfl rfl

theorem State.onReference.raised (hs : s.onReference) (e : Status) : (raised e s).onReference :=
  hs.congr rfl rfl rfl

theorem State.onReference.waitUnits (hs : s.onReference) (n : Nat) : (waitUnits n s).onReference :=
  hs.congr rfl rfl rfl

theorem State.onReference.unlockDone (hs : s.onReference) : (unlockDone s).onReference :=
  (((hs.setSeq _).writeDone _ _).setSeq _).waitUnits _

theorem State.onReference.programDone (hs : s.onReference) (slot : SReg) (v : Word) :
    (programDone s slot v).onReference :=
  (((hs.setSeq _).writeDone _ _).setSeq _).waitUnits _

theorem State.onReference.lockDone (hs : s.onReference) : (lockDone s).onReference :=
  ((hs.setSeq _).writeDone _ _).setSeq _

/-- The probe of `BEGIN`, whatever is concluded from it, leaves the reference sensor one. -/
theorem State.onReference.probe (hs : s.onReference) (d : BitVec 7) (clk : Nat) (pins : Option Nat)
    (v : InitState) : (setInit v (Machine.readDone .id (beginProbe d clk pins s))).onReference :=
  have hprobe : (beginProbe d clk pins s).onReference := hs.congr rfl rfl rfl
  (hprobe.readDone .id).congr rfl rfl rfl

/-- Every shape of next state keeps the reference sensor; the shapes of a failed transaction cannot arise on it. -/
theorem NextShape.keeps_reference (h : NextShape s i t) (hs : s.onReference) : t.onReference := by
  cases h with
  | pure _ o => exact hs.setOutputs o
  | badSlot => exact hs.raised _
  | readDone _ a o => exact (hs.readDone a).setOutputs o
  | writeDone _ a v => exact (hs.writeDone a v).setOutputs _
  | setDone _ v => exact ((hs.readDone _).writeDone _ v).setOutputs _
  | scratchDone _ slot v => exact (hs.unlockDone.programDone slot v).lockDone.setOutputs _
  | probeAccepted d clk pins => exact (hs.probe d clk pins _).setOutputs _
  | probeMismatch d clk pins => exact (hs.probe d clk pins _).raised _
  | readFailed _ _ _ _ _ _ he | writeFailed _ _ _ _ _ _ _ _ he | unlockFailed _ _ _ _ _ he
  | probeFailed _ _ _ _ _ he => exact absurd he hs.not_failed
  | setFailed _ _ _ _ _ _ _ he' => exact absurd he' (hs.readDone _).not_failed
  | programFailed _ _ _ _ _ _ he' => exact absurd he' hs.unlockDone.not_failed
  | lockFailed _ slot v _ _ _ _ he'' => exact absurd he'' (hs.unlockDone.programDone slot v).not_failed

end Reference

/-- Settles O58: every shape of next state keeps the reference sensor. -/
theorem everyStepKeepsTheReferenceSensor : Obligations.EveryStepKeepsTheReferenceSensor := by
  intro s t hs h
  rcases step_next h with rfl | ⟨i, rest, hexec⟩
  · exact hs
  · exact (exec_next_shape hexec).keeps_reference (hs.congr rfl rfl rfl)

/-! ### The oracle's registers and marks -/

section Oracle

variable {k : SensorKind} {n : Nat} {a b : SReg} {v : Word} {x : Sensor}

/-- A completed write to a slot changes no other register, wherever the slot's own word comes from (R35; log 11,
log 34). -/
theorem Sensor.get_written_slot_other (ha : isSlot a = true) (hb : b ≠ a) :
    (x.written .oracle n a v).get b = x.get b := by
  have hstore : ∃ w, x.store .oracle n a v = x.set a w := by
    rcases isSlot_iff.mp ha with rfl | rfl | rfl <;>
      · simp only [Sensor.store]
        split
        · exact ⟨_, rfl⟩
        · exact ⟨_, rfl⟩
  obtain ⟨w, hw⟩ := hstore
  rw [Sensor.written, Sensor.get_mark, hw, Sensor.get_set_other x hb]

/-- The reset command keeps the persistent slots and `ID` (R175, R272; log 9). -/
theorem Sensor.get_written_reset (hb : b = .scr1 ∨ b = .scr2 ∨ b = .scr3 ∨ b = .id) :
    (x.written .oracle n .cfg resetSentinel).get b = x.get b := by
  rw [Sensor.written, Sensor.get_mark]
  rcases hb with rfl | rfl | rfl | rfl <;> rfl

/-- A failed write other than of the reset sentinel to `CFG` changes no register but the one it addressed (log 8). -/
theorem Sensor.writeFailed_oracle (hreset : ¬(a = .cfg ∧ v = resetSentinel)) :
    x.writeFailed .oracle n a v = (x.set a (Config.afterFailedWrite n a)).mark a v := by
  cases a with
  | cfg =>
    have hv : v ≠ resetSentinel := fun hv => hreset ⟨rfl, hv⟩
    simp only [Sensor.writeFailed, if_neg hv]
  | _ => rfl

/-- A slot write opens the programming window of that slot (R39, R274). -/
theorem Sensor.written_slot_prog (ha : isSlot a = true) : (x.written k n a v).prog = some (a, tProgram) := by
  rw [Sensor.written, Sensor.mark, if_pos ha]

/-- An unlock owes the settle time (R275). -/
theorem Sensor.written_unlock_settle (hv : v.getLsbD 15 = true) : (x.written k n .unlock v).settle = tSettle :=
  if_pos hv

/-- Waiting runs an open window down (R39, R217). -/
theorem Sensor.elapse_prog {m w : Nat} (h : x.prog = some (a, w)) :
    (x.elapse m).prog = if w ≤ m then none else some (a, w - m) := by
  simp only [Sensor.elapse, h]

end Oracle

/-- Settles O22, one rule of the oracle per clause. -/
theorem oracleWritesReplaceTheRegister : Obligations.OracleWritesReplaceTheRegister := by
  refine ⟨?_, ?_, ?_, ?_, ?_, ?_, ?_⟩
  · intro n a b v x h
    rw [← isSlot_iff] at h
    rw [Sensor.get_written_oracle x h, Sensor.get_set]
  · intro n a b v x ha hb
    exact Sensor.get_written_slot_other (isSlot_iff.mpr ha) hb
  · intro n b x hb
    exact Sensor.get_written_reset hb
  · intro n a b v x hb hreset
    rw [Sensor.writeFailed_oracle hreset, Sensor.get_mark, Sensor.get_set_other x hb]
  · intro k n a v x
    exact ⟨fun ha => Sensor.written_slot_prog (isSlot_iff.mpr ha), Sensor.written_unlock_settle⟩
  · intro m b x
    exact ⟨Sensor.get_elapse x b m, rfl, fun a w h => Sensor.elapse_prog h⟩
  · intro a s _ hchanges h
    exact State.found_of_no_changes hchanges (h.imp_right inScratchRegion_eq_false_iff.mpr)

/-! ### The oracle may answer anything -/

/-- The script in which the environment does `e` at transaction `n` and nothing before it. -/
def scriptAt (n : Nat) (e : BusEvent) : List BusEvent := List.replicate n BusEvent.quiet ++ [e]

/-- The state whose next transaction meets the event `e`. -/
def State.meeting (s : State) (e : BusEvent) : State := { s with script := scriptAt s.pos e }

theorem State.meeting_event (s : State) (e : BusEvent) : (s.meeting e).event = e := by
  simp [State.event, State.eventAt, State.meeting, scriptAt]

/-- `RDREG` of a register of the map is one read of it (R160). -/
theorem exec_rdreg {s : State} (hs : s.isReady) (a : SReg) :
    exec (.rdreg (regAddr a)) s = readAndFinish a okOut s := by
  change execRdreg (regAddr a) s = _
  rw [execRdreg, onHandle_ready hs, regAt_regAddr]

/-- `WRREG` of an admitted register is one write of it (R161). -/
theorem exec_wrreg {s : State} (hs : s.isReady) {a : SReg} (ha : wrregAdmits a = true) (v : Word) :
    exec (.wrreg (regAddr a) v) s = writeAndFinish a v s := by
  change execWrreg (regAddr a) v s = _
  rw [execWrreg, onHandle_ready hs, regAt_regAddr]
  exact if_pos ha

section Meeting

variable {s : State} {e : BusEvent} {a : SReg}

/-- A read that meets a completing event delivers what it finds. -/
theorem rdreg_meeting_done (hs : s.isReady) (he : e.answer = .done) :
    exec (.rdreg (regAddr a)) (s.meeting e) =
      .next (setOutputs (okOut (((s.meeting e).found a).get a)) (readDone a (s.meeting e))) := by
  rw [exec_rdreg (s := s.meeting e) hs, readAndFinish,
    memRead_done (by rw [State.meeting_event, he]), orRaise_done, finish_eq]

theorem rdreg_meeting_failed (hs : s.isReady) (he : e.answer = .failed) :
    exec (.rdreg (regAddr a)) (s.meeting e) = .next (raised .transportError (readFailed a (s.meeting e))) := by
  rw [exec_rdreg (s := s.meeting e) hs, readAndFinish,
    memRead_failed (by rw [State.meeting_event, he]), orRaise_failed, raise_eq]

variable {v : Word}

theorem wrreg_meeting_done (hs : s.isReady) (ha : wrregAdmits a = true) (he : e.answer = .done) :
    exec (.wrreg (regAddr a) v) (s.meeting e) = .next (setOutputs okNothing (writeDone a v (s.meeting e))) := by
  rw [exec_wrreg (s := s.meeting e) hs ha, writeAndFinish,
    memWrite_done (by rw [State.meeting_event, he]), orRaise_done, finish_eq]

theorem wrreg_meeting_failed (hs : s.isReady) (ha : wrregAdmits a = true) (he : e.answer = .failed) :
    exec (.wrreg (regAddr a) v) (s.meeting e) =
      .next (raised .transportError (writeFailed a v (s.meeting e))) := by
  rw [exec_wrreg (s := s.meeting e) hs ha, writeAndFinish,
    memWrite_failed (by rw [State.meeting_event, he]), orRaise_failed, raise_eq]

/-- With no window open the environment can put any word where the next transaction looks (R50). -/
theorem found_meeting_change (hp : s.sensor.prog = none) {w : Word} (hc : e.changes = [(a, w)]) :
    ((s.meeting e).found a).get a = w := by
  rw [State.found_of_no_window (s := s.meeting e) hp, State.meeting_event, hc]
  exact Sensor.get_set_same _ a w

end Meeting

/-- Settles O23: an environment that puts the word there and completes, and one that fails. -/
theorem theOracleMayAnswerAnything : Obligations.TheOracleMayAnswerAnything := by
  intro a v w s hs _ hp
  have hfound := found_meeting_change (a := a) (e := ⟨[(a, w)], .done⟩) hp rfl
  refine ⟨⟨scriptAt s.pos ⟨[(a, w)], .done⟩, _, rdreg_meeting_done hs rfl, ?_⟩,
    ⟨scriptAt s.pos ⟨[], .failed⟩, _, rdreg_meeting_failed hs rfl, rfl⟩, fun ha =>
    ⟨⟨scriptAt s.pos BusEvent.quiet, _, wrreg_meeting_done hs ha rfl, rfl⟩,
      ⟨scriptAt s.pos ⟨[], .failed⟩, _, wrreg_meeting_failed hs ha rfl, rfl⟩⟩⟩
  rw [setOutputs_outputs, hfound]
  rfl

/-! ### What each step adds to the trace -/

/-- On the way from `s` to `t` at most `c` calls joined the trace, and at most `n` transactions were made. -/
def Adds (c n : Nat) (s t : State) : Prop :=
  ∃ l : List BusRecord, t.trace = s.trace ++ l ∧ l.length ≤ c ∧ s.pos ≤ t.pos ∧ t.pos ≤ s.pos + n

section Trace

variable {c c' n n' : Nat} {s t u : State} {r : BusRecord}

theorem Adds.trans (h : Adds c n s t) (h' : Adds c' n' t u) : Adds (c + c') (n + n') s u := by
  obtain ⟨l, htrace, hlen, hle, hpos⟩ := h
  obtain ⟨l', htrace', hlen', hle', hpos'⟩ := h'
  refine ⟨l ++ l', by rw [htrace', htrace, List.append_assoc], ?_, by omega, by omega⟩
  rw [List.length_append]
  omega

theorem Adds.mono (h : Adds c n s t) (hc : c ≤ c') (hn : n ≤ n') : Adds c' n' s t := by
  obtain ⟨l, htrace, hlen, hle, hpos⟩ := h
  exact ⟨l, htrace, by omega, hle, by omega⟩

/-- No call. -/
theorem Adds.of_same (htrace : t.trace = s.trace) (hpos : t.pos = s.pos) : Adds 0 0 s t :=
  ⟨[], by simp [htrace], by simp, by omega, by omega⟩

/-- One call that is no transaction. -/
theorem Adds.of_call (htrace : t.trace = s.trace ++ [r]) (hpos : t.pos = s.pos) : Adds 1 0 s t :=
  ⟨[r], htrace, by simp, by omega, by omega⟩

/-- One transaction. -/
theorem Adds.of_transaction (htrace : t.trace = s.trace ++ [r]) (hpos : t.pos = s.pos + 1) : Adds 1 1 s t :=
  ⟨[r], htrace, by simp, by omega, by omega⟩

/-- However the transactions of a reply end, at most `c` calls and `n` transactions were added. -/
def Reply.Adds {α : Type} (c n : Nat) (s : State) : Reply α → Prop
  | .done _ t => Machine.Adds c n s t
  | .failed t => Machine.Adds c n s t
  | .hung => True

/-- A next state the result holds added at most `c` calls and `n` transactions. -/
def ResultAdds (c n : Nat) (s : State) (r : Result) : Prop := ∀ t, r = .next t → Adds c n s t

theorem ResultAdds.mono {r : Result} (h : ResultAdds c n s r) (hc : c ≤ c') (hn : n ≤ n') : ResultAdds c' n' s r :=
  fun t ht => (h t ht).mono hc hn

theorem readDone_adds (a : SReg) (s : State) : Adds 1 1 s (readDone a s) :=
  .of_transaction (readDone_trace s a) (readDone_pos s a)

theorem readFailed_adds (a : SReg) (s : State) : Adds 1 1 s (readFailed a s) :=
  .of_transaction (readFailed_trace s a) (readFailed_pos s a)

theorem writeDone_adds (a : SReg) (v : Word) (s : State) : Adds 1 1 s (writeDone a v s) :=
  .of_transaction (writeDone_trace s a v) (writeDone_pos s a v)

theorem writeFailed_adds (a : SReg) (v : Word) (s : State) : Adds 1 1 s (writeFailed a v s) :=
  .of_transaction (writeFailed_trace s a v) (writeFailed_pos s a v)

theorem waitUnits_adds (m : Nat) (s : State) : Adds 1 0 s (waitUnits m s) :=
  .of_call (waitUnits_trace s m) (waitUnits_pos s m)

theorem beginProbe_adds (d : BitVec 7) (clk : Nat) (pins : Option Nat) (s : State) :
    Adds 1 0 s (beginProbe d clk pins s) :=
  .of_call (beginProbe_trace s d clk pins) (beginProbe_pos s d clk pins)

theorem finish_adds (o : Outputs) (s : State) : ResultAdds 0 0 s (finish o s) := by
  rintro _ ⟨⟩
  exact .of_same rfl rfl

theorem raise_adds (e : Status) (s : State) : ResultAdds 0 0 s (raise e s) := by
  rintro _ ⟨⟩
  exact .of_same rfl rfl

theorem refused_adds (e : Refusal) (s : State) : ResultAdds c n s (.refused e) := fun _ h => nomatch h

theorem onHandle_adds {k : State → Result} (h : ResultAdds c n s (k s)) : ResultAdds c n s (onHandle s k) :=
  fun t ht => h t (onHandle_next ht).2

/-- A transaction and the rest of an operation add what the two add together. -/
theorem orRaise_adds {α : Type} {r : Reply α} {k : α → State → Result} (hr : r.Adds c n s)
    (hk : ∀ v t, ResultAdds c' n' t (k v t)) : ResultAdds (c + c') (n + n') s (r.orRaise k) := by
  intro t h
  rcases orRaise_next h with ⟨u, rfl, rfl⟩ | ⟨v, u, rfl, hu⟩
  · exact (hr.trans (raise_adds .transportError u _ rfl)).mono (by omega) (by omega)
  · exact hr.trans (hk v u t hu)

theorem memRead_adds (a : SReg) (s : State) : (memRead a s).Adds 1 1 s := by
  rcases memRead_cases a s with ⟨-, e⟩ | ⟨-, e⟩ | ⟨-, e⟩ <;> rw [e]
  · trivial
  · exact readFailed_adds a s
  · exact readDone_adds a s

theorem memWrite_adds (a : SReg) (v : Word) (s : State) : (memWrite a v s).Adds 1 1 s := by
  rcases memWrite_cases a v s with ⟨-, e⟩ | ⟨-, e⟩ | ⟨-, e⟩ <;> rw [e]
  · trivial
  · exact writeFailed_adds a v s
  · exact writeDone_adds a v s

theorem readAndFinish_adds (a : SReg) (o : Word → Outputs) (s : State) :
    ResultAdds 1 1 s (readAndFinish a o s) :=
  orRaise_adds (memRead_adds a s) fun w t => finish_adds (o w) t

theorem writeAndFinish_adds (a : SReg) (v : Word) (s : State) : ResultAdds 1 1 s (writeAndFinish a v s) :=
  orRaise_adds (memWrite_adds a v s) fun _ t => finish_adds okNothing t

theorem setField_adds (f : CfgField) (v : Word) (s : State) : ResultAdds 2 2 s (setField f v s) :=
  onHandle_adds (orRaise_adds (memRead_adds .cfg s) fun c t => writeAndFinish_adds .cfg (pack f c v) t)

theorem unlockPhase_adds (s : State) : (unlockPhase s).Adds 2 1 s := by
  rcases unlockPhase_cases s with ⟨-, e⟩ | ⟨-, e⟩ | ⟨-, e⟩ <;> rw [e]
  · trivial
  · exact (writeFailed_adds .unlock unlockSentinel (setSeq .unlocking s)).mono (by omega) le_rfl
  · exact (writeDone_adds .unlock unlockSentinel (setSeq .unlocking s)).trans (waitUnits_adds tSettle _)

theorem programPhase_adds (slot : SReg) (v : Word) (s : State) : (programPhase slot v s).Adds 2 1 s := by
  rcases programPhase_cases s slot v with ⟨-, e⟩ | ⟨-, e⟩ | ⟨-, e⟩ <;> rw [e]
  · trivial
  · exact (writeFailed_adds slot v (setSeq .writing s)).mono (by omega) le_rfl
  · exact (writeDone_adds slot v (setSeq .writing s)).trans (waitUnits_adds tProgram _)

theorem lockPhase_adds (s : State) : (lockPhase s).Adds 1 1 s := by
  rcases lockPhase_cases s with ⟨-, e⟩ | ⟨-, e⟩ | ⟨-, e⟩ <;> rw [e]
  · trivial
  · exact writeFailed_adds .unlock lockSentinel (setSeq .locking s)
  · exact writeDone_adds .unlock lockSentinel (setSeq .locking s)

/-- `WRSCRATCH`: three writes and the waits after the first two (R212). -/
theorem execWrscratch_adds (addr : Byte) (v : Word) (s : State) : ResultAdds 5 3 s (execWrscratch addr v s) := by
  apply onHandle_adds
  split
  · exact (raise_adds _ s).mono (by omega) (by omega)
  · next slot _ =>
    exact orRaise_adds (unlockPhase_adds s) fun _ s1 =>
      orRaise_adds (programPhase_adds slot v s1) fun _ s2 =>
        orRaise_adds (lockPhase_adds s2) fun _ s3 => finish_adds okNothing s3

/-- `BEGIN`: the transport configured, and one probe (R210). -/
theorem execBeginHandle_adds (d : BitVec 7) (clk : Nat) (pins : Option Nat) (s : State) :
    ResultAdds 2 1 s (execBeginHandle d clk pins s) := by
  intro t h
  rcases execBeginHandle_cases s d clk pins with
    ⟨_, e⟩ | ⟨_, _, e⟩ | ⟨_, _, ⟨_, e⟩ | ⟨_, e⟩ | ⟨_, _, e⟩ | ⟨_, _, e⟩⟩ <;> rw [e] at h <;> cases h
  · exact (beginProbe_adds d clk pins s).trans (readFailed_adds .id _)
  · exact (beginProbe_adds d clk pins s).trans (readDone_adds .id _)
  · exact (beginProbe_adds d clk pins s).trans (readDone_adds .id _)

theorem execRdreg_adds (addr : Byte) (s : State) : ResultAdds 1 1 s (execRdreg addr s) := by
  apply onHandle_adds
  split
  · exact readAndFinish_adds _ _ s
  · exact refused_adds _ s

theorem execWrreg_adds (addr : Byte) (v : Word) (s : State) : ResultAdds 1 1 s (execWrreg addr v s) := by
  apply onHandle_adds
  split
  · split
    · exact writeAndFinish_adds _ v s
    · exact refused_adds _ s
  · exact refused_adds _ s

theorem execRdscratch_adds (addr : Byte) (s : State) : ResultAdds 1 1 s (execRdscratch addr s) := by
  apply onHandle_adds
  split
  · exact (raise_adds _ s).mono (by omega) (by omega)
  · exact readAndFinish_adds _ _ s

/-- Every operation adds at most five calls, and no more transactions than its rule gives it (R52, R53). -/
theorem exec_adds (i : Instr) (s : State) : ResultAdds 5 (mostTransactions i) s (exec i s) := by
  cases i with
  | packMode | packRate | packAvg | packTa | packPol | unpackMode | unpackRate | unpackAvg | unpackTa | unpackPol
  | raw2c | c2raw | c2f | raw2f => exact (finish_adds _ s).mono (by omega) le_rfl
  | setMode v | setRate v | setAvg v | setTa v | setPol v => exact (setField_adds _ v s).mono (by omega) le_rfl
  | getMode | getRate | getAvg | getTa | getPol | getTemp | getHigh | getLow | getOffset | getId =>
    exact (onHandle_adds (readAndFinish_adds _ _ s)).mono (by omega) le_rfl
  | setHigh | setLow | setOffset | resetSensor =>
    exact (onHandle_adds (writeAndFinish_adds _ _ s)).mono (by omega) le_rfl
  | rdreg addr => exact (execRdreg_adds addr s).mono (by omega) le_rfl
  | wrreg addr v => exact (execWrreg_adds addr v s).mono (by omega) le_rfl
  | beginHandle d clk pins => exact (execBeginHandle_adds d clk pins s).mono (by omega) le_rfl
  | wrscratch addr v => exact execWrscratch_adds addr v s
  | rdscratch addr => exact (execRdscratch_adds addr s).mono (by omega) le_rfl

theorem mostTransactions_le (i : Instr) : mostTransactions i ≤ 3 := by
  cases i <;> simp [mostTransactions]

end Trace

/-- Settles O52: what `exec` adds; a Layer 0 operation adds nothing because it changes the output ports alone. -/
theorem everyStepOnlyAddsToTheTrace : Obligations.EveryStepOnlyAddsToTheTrace := by
  refine ⟨?_, ?_, ?_⟩
  · intro s t h
    rcases step_next h with rfl | ⟨i, rest, hexec⟩
    · exact (Adds.of_same rfl rfl).mono (by omega) (by omega)
    · exact (exec_adds i _ t hexec).mono le_rfl (mostTransactions_le i)
  · intro i s t h
    obtain ⟨_, _, _, hle, hpos⟩ := exec_adds i s t h
    exact ⟨hle, hpos⟩
  · intro i s t hlayer h
    obtain ⟨o, -, hexec⟩ := layerZeroDependsOnOperandsAlone i hlayer
    rw [hexec] at h
    cases h
    exact ⟨rfl, rfl⟩

end Sys2Proof.Machine

/-!
PROOFS. The statements of `30_encoding.md`: decode and encode, the reserved selectors, the opcode map, and the images
of the examples.
-/

namespace Sys2Proof.Machine

/-! ### Decode and encode -/

/-- Every operation is read back from its encoding (R70, R80). -/
@[simp] theorem decode_encode (i : Instr) : decode (encode i) = .ok i := by
  cases i with
  | beginHandle address clk pins =>
    simp [decode, encode, Instr.opsel]
  | _ => rfl

/-- No two operations share an encoding: `decode` tells them apart. -/
theorem encode_injective : Function.Injective encode := fun i j h =>
  Except.ok.inj <| calc
    Except.ok i = decode (encode i) := (decode_encode i).symm
    _ = decode (encode j) := by rw [h]
    _ = Except.ok j := decode_encode j

/-- A request that decodes has the selector of its operation (R70). -/
theorem opsel_of_decode {r : Request} {i : Instr} (h : decode r = .ok i) : r.opsel = i.opsel := by
  rcases decode_cases r with ⟨j, hj, hop⟩ | he
  · cases hj.symm.trans h
    exact hop.symm
  · cases he.symm.trans h

/-- The device address `BEGIN` takes from `ADDR`, put back on it, is bits 6:0 of `ADDR` (R210; log 21). -/
theorem setWidth_setWidth_eq_and (a : Byte) : (a.setWidth 7).setWidth 8 = a &&& 0x7F := by
  apply BitVec.eq_of_toNat_eq
  calc ((a.setWidth 7).setWidth 8).toNat
      = a.toNat % 2 ^ 7 := by simp only [BitVec.toNat_setWidth]; omega
    _ = a.toNat &&& (2 ^ 7 - 1) := (Nat.and_two_pow_sub_one_eq_mod a.toNat 7).symm
    _ = (a &&& 0x7F).toNat := by rw [BitVec.toNat_and]; rfl

/-- A request with the selector of an operation decodes, to an operation whose encoding is that request on the ports it
reads (R6, R76, R80). -/
theorem decode_of_opsel {r : Request} {i : Instr} (h : r.opsel = i.opsel) :
    ∃ j, decode r = .ok j ∧ encode j = onlyPortsOf j r := by
  obtain ⟨op, cur, val, code, rin, addr, clk, pins⟩ := r
  obtain rfl : op = i.opsel := h
  cases i with
  | beginHandle =>
    exact ⟨.beginHandle (addr.setWidth 7) clk pins, rfl, by
      simp [encode, onlyPortsOf, portsRead, Instr.opsel, setWidth_setWidth_eq_and]⟩
  | _ => exact ⟨_, rfl, rfl⟩

/-- The encoding of what a request decodes to: the decoder answers one operation, the one `decode_of_opsel` finds. -/
theorem encode_of_decode {r : Request} {i : Instr} (h : decode r = .ok i) : encode i = onlyPortsOf i r := by
  obtain ⟨j, hj, hencode⟩ := decode_of_opsel (opsel_of_decode h)
  cases hj.symm.trans h
  exact hencode

/-- Settles O46. -/
theorem decodeAndEncodeAgree : Obligations.DecodeAndEncodeAgree :=
  ⟨decode_encode, fun _ _ => opsel_of_decode, fun _ _ => encode_of_decode, fun _ _ h => encode_injective h⟩

/-! ### Every refusal an operation can answer -/

/-- A shape of refusal, with what made it so (R256). -/
inductive RefusalShape (s : State) : Instr → Refusal → Prop where
  /-- A Layer 1 operation before `BEGIN` (R250). -/
  | beforeBegin (i : Instr) (hl : i.layer = 1) (hn : i.isBegin = false) (hu : s.initState = .uninitialized) :
      RefusalShape s i .beforeBegin
  /-- `BEGIN` a second time (R210). -/
  | beginAgain (a : BitVec 7) (clk : Nat) (pins : Option Nat) (hb : s.initState ≠ .uninitialized) :
      RefusalShape s (.beginHandle a clk pins) .beginAgain
  /-- `BEGIN` with no legal device address (R210). -/
  | beginAddress (a : BitVec 7) (clk : Nat) (pins : Option Nat) (hu : s.initState = .uninitialized)
      (ha : legalDevAddr a = false) : RefusalShape s (.beginHandle a clk pins) (.beginAddress a)
  /-- `RDREG` of an address with no register (R160). -/
  | readAddress (addr : Byte) (hb : s.initState ≠ .uninitialized) (ha : regAt addr = none) :
      RefusalShape s (.rdreg addr) (.readAddress addr)
  /-- `WRREG` to an address with no register it admits (R161). -/
  | writeAddress (addr : Byte) (v : Word) (hb : s.initState ≠ .uninitialized)
      (ha : ∀ a, regAt addr = some a → wrregAdmits a = false) :
      RefusalShape s (.wrreg addr v) (.writeAddress addr)

section Refusals

variable {s : State} {i : Instr} {e : Refusal}

/-- A transaction refuses nothing: what follows it would have to. -/
theorem orRaise_ne_refused {α : Type} {r : Reply α} {k : α → State → Result} (hk : ∀ v t, k v t ≠ .refused e) :
    r.orRaise k ≠ .refused e := by
  cases r with
  | done v t => exact hk v t
  | failed t => exact nofun
  | hung => exact nofun

theorem finish_ne_refused (o : Outputs) (s : State) : finish o s ≠ .refused e := nofun

theorem readAndFinish_ne_refused (a : SReg) (o : Word → Outputs) (s : State) : readAndFinish a o s ≠ .refused e :=
  orRaise_ne_refused fun w t => finish_ne_refused (o w) t

theorem writeAndFinish_ne_refused (a : SReg) (v : Word) (s : State) : writeAndFinish a v s ≠ .refused e :=
  orRaise_ne_refused fun _ t => finish_ne_refused okNothing t

/-- A Layer 1 operation is refused because no `BEGIN` came before it, or by its own rule on a bound handle. -/
theorem onHandle_refused {k : State → Result} (h : onHandle s k = .refused e) :
    (s.initState = .uninitialized ∧ e = .beforeBegin) ∨ (s.initState ≠ .uninitialized ∧ k s = .refused e) := by
  by_cases hu : s.initState = .uninitialized
  · rw [onHandle_unbound hu] at h
    cases h
    exact .inl ⟨hu, rfl⟩
  · rw [onHandle_bound hu] at h
    exact .inr ⟨hu, h⟩

/-- An operation whose own rule refuses nothing is refused before `BEGIN` only. -/
theorem refusalShape_of_onHandle {k : State → Result} (hl : i.layer = 1) (hn : i.isBegin = false)
    (hk : k s ≠ .refused e) (h : onHandle s k = .refused e) : RefusalShape s i e := by
  rcases onHandle_refused h with ⟨hu, rfl⟩ | ⟨-, h⟩
  · exact .beforeBegin i hl hn hu
  · exact absurd h hk

theorem refusalShape_of_set {f : CfgField} {v : Word} (hl : i.layer = 1) (hn : i.isBegin = false)
    (h : setField f v s = .refused e) : RefusalShape s i e :=
  refusalShape_of_onHandle hl hn (orRaise_ne_refused fun c t => writeAndFinish_ne_refused .cfg (pack f c v) t) h

theorem refusalShape_of_rdreg {addr : Byte} (h : execRdreg addr s = .refused e) : RefusalShape s (.rdreg addr) e := by
  rcases onHandle_refused h with ⟨hu, rfl⟩ | ⟨hb, h⟩
  · exact .beforeBegin _ rfl rfl hu
  · cases ha : regAt addr with
    | some a =>
      simp only [ha] at h
      exact absurd h (readAndFinish_ne_refused a okOut s)
    | none =>
      simp only [ha] at h
      cases h
      exact .readAddress addr hb ha

theorem refusalShape_of_wrreg {addr : Byte} {v : Word} (h : execWrreg addr v s = .refused e) :
    RefusalShape s (.wrreg addr v) e := by
  rcases onHandle_refused h with ⟨hu, rfl⟩ | ⟨hb, h⟩
  · exact .beforeBegin _ rfl rfl hu
  · split at h
    · next a ha =>
      split at h
      · exact absurd h (writeAndFinish_ne_refused a v s)
      · next hadmit =>
        cases h
        exact .writeAddress addr v hb (by simpa [ha] using hadmit)
    · next ha =>
      cases h
      exact .writeAddress addr v hb (by simp [ha])

theorem refusalShape_of_wrscratch {addr : Byte} {v : Word} (h : execWrscratch addr v s = .refused e) :
    RefusalShape s (.wrscratch addr v) e := by
  refine refusalShape_of_onHandle rfl rfl ?_ h
  split
  · exact nofun
  · exact orRaise_ne_refused fun _ _ => orRaise_ne_refused fun _ _ => orRaise_ne_refused fun _ _ =>
      finish_ne_refused _ _

theorem refusalShape_of_rdscratch {addr : Byte} (h : execRdscratch addr s = .refused e) :
    RefusalShape s (.rdscratch addr) e := by
  refine refusalShape_of_onHandle rfl rfl ?_ h
  split
  · exact nofun
  · exact readAndFinish_ne_refused _ _ _

theorem refusalShape_of_begin {a : BitVec 7} {clk : Nat} {pins : Option Nat}
    (h : execBeginHandle a clk pins s = .refused e) : RefusalShape s (.beginHandle a clk pins) e := by
  rcases execBeginHandle_cases s a clk pins with
    ⟨hb, heq⟩ | ⟨hu, ha, heq⟩ | ⟨_, _, ⟨_, heq⟩ | ⟨_, heq⟩ | ⟨_, _, heq⟩ | ⟨_, _, heq⟩⟩ <;> rw [heq] at h <;> cases h
  · exact .beginAgain a clk pins hb
  · exact .beginAddress a clk pins hu ha

/-- Every refusal an operation can answer, and why (R256). -/
theorem exec_refusalShape (h : exec i s = .refused e) : RefusalShape s i e := by
  cases i with
  | packMode | packRate | packAvg | packTa | packPol | unpackMode | unpackRate | unpackAvg | unpackTa | unpackPol
  | raw2c | c2raw | c2f | raw2f => exact absurd h (finish_ne_refused _ s)
  | setMode v | setRate v | setAvg v | setTa v | setPol v => exact refusalShape_of_set rfl rfl h
  | getMode | getRate | getAvg | getTa | getPol | getTemp | getHigh | getLow | getOffset | getId =>
    exact refusalShape_of_onHandle rfl rfl (readAndFinish_ne_refused _ _ s) h
  | setHigh | setLow | setOffset | resetSensor =>
    exact refusalShape_of_onHandle rfl rfl (writeAndFinish_ne_refused _ _ s) h
  | rdreg addr => exact refusalShape_of_rdreg h
  | wrreg addr v => exact refusalShape_of_wrreg h
  | beginHandle a clk pins => exact refusalShape_of_begin h
  | wrscratch addr v => exact refusalShape_of_wrscratch h
  | rdscratch addr => exact refusalShape_of_rdscratch h

end Refusals

/-! ### The reserved selectors -/

/-- The ranges of selectors that R81 lists. -/
def ReservedSelector (b : Byte) : Prop :=
  (0x05 ≤ b.toNat ∧ b.toNat ≤ 0x07) ∨ (0x0D ≤ b.toNat ∧ b.toNat ≤ 0x0F) ∨ (0x14 ≤ b.toNat ∧ b.toNat ≤ 0x1F) ∨
  (0x25 ≤ b.toNat ∧ b.toNat ≤ 0x27) ∨ (0x2D ≤ b.toNat ∧ b.toNat ≤ 0x2F) ∨ (0x3B ≤ b.toNat ∧ b.toNat ≤ 0x3F) ∨
  0x43 ≤ b.toNat

/-- No operation has a reserved selector (R80, R81). -/
theorem not_reservedSelector_opsel (i : Instr) : ¬ReservedSelector i.opsel := by
  cases i <;> simp [ReservedSelector, Instr.opsel]

/-- The decoder rejects exactly the listed selectors (R81). -/
theorem decode_eq_error_iff (r : Request) :
    decode r = .error (.reservedSelector r.opsel) ↔ ReservedSelector r.opsel := by
  constructor
  · intro h
    unfold decode at h
    split at h <;> cases h
    simp only [ReservedSelector, imp_false] at *
    omega
  · intro h
    rcases decode_cases r with ⟨i, -, hop⟩ | he
    · exact absurd (hop ▸ h) (not_reservedSelector_opsel i)
    · exact he

/-- A step refuses a request as reserved exactly if the decoder rejects it: no operation is refused so. -/
theorem step_reserved_iff {s : State} {r : Request} {rest : List Request} (hr : s.requests = r :: rest) :
    step s = .refused (.reservedSelector r.opsel) ↔ decode r = .error (.reservedSelector r.opsel) := by
  constructor
  · intro h
    rcases decode_cases r with ⟨i, hd, -⟩ | he
    · rw [step_of_decode hr hd] at h
      cases exec_refusalShape h
    · exact he
  · exact step_of_reserved hr

/-- Settles O47. -/
theorem reservedSelectorsAreRefused : Obligations.ReservedSelectorsAreRefused :=
  fun _ r _ hr => (step_reserved_iff hr).trans (decode_eq_error_iff r)

/-! ### The opcode map -/

/-- Settles O45: with its selector written out, each request decodes by evaluation. -/
theorem everySelectorReadsItsPorts : Obligations.EverySelectorReadsItsPorts := by
  intro r
  obtain ⟨op, cur, val, code, rin, addr, clk, pins⟩ := r
  and_intros <;> (rintro rfl; rfl)

/-- Settles O44, by evaluation of the decoder. -/
theorem writtenOutSelectorsDecode : Obligations.WrittenOutSelectorsDecode :=
  ⟨rfl, rfl, rfl, rfl, rfl, rfl, rfl, rfl, rfl, rfl⟩

/-! ### The images of the examples -/

/-- Settles O10: the integer multiple of 2^-149 that each image denotes (R86). -/
theorem binary32ImagesOfTheExamples : Obligations.Binary32ImagesOfTheExamples := by
  have hzero : f32Num 0x00000000#32 = 0 := by decide
  have hone : f32Num 0x3F800000#32 = 2 ^ 149 := by decide
  have hnegOne : f32Num 0xBF800000#32 = -2 ^ 149 := by decide
  have hthirtyTwo : f32Num 0x42000000#32 = 32 * 2 ^ 149 := by decide
  have hhundred : f32Num 0x42C80000#32 = 100 * 2 ^ 149 := by decide
  have htwoHundredTwelve : f32Num 0x43540000#32 = 212 * 2 ^ 149 := by decide
  have hcodeStep : f32Num 0x3C000000#32 = 2 ^ 142 := by decide
  simp only [Obligations.Binary32ImagesOfTheExamples, f32Val, hzero, hone, hnegOne, hthirtyTwo, hhundred,
    htwoHundredTwelve, hcodeStep]
  norm_num

end Sys2Proof.Machine

/-!
PROOFS. The statements of `41_register_codec.md`: the field table, the closed forms of the ten operations, and the laws
of insertion and extraction. Two words agree when their unnamed bits and their five unpacked values do (`word_ext`), so
each law about whole words is read off what `PACK.f` leaves in each field.
-/

namespace Sys2Proof.Machine

/-! ### The field table -/

theorem fieldLo_add_fieldWidth_le (f : CfgField) : fieldLo f + fieldWidth f ≤ 16 := by cases f <;> decide

/-- Bit `i` of a word belongs to the field `f` (R100). -/
abbrev InField (f : CfgField) (i : Nat) : Prop := fieldLo f ≤ i ∧ i < fieldLo f + fieldWidth f

/-- Of two fields, one lies wholly above the other (R100). -/
theorem fields_apart {f g : CfgField} : f ≠ g →
    fieldLo f + fieldWidth f ≤ fieldLo g ∨ fieldLo g + fieldWidth g ≤ fieldLo f := by
  cases f <;> cases g <;> simp [fieldLo, fieldWidth]

/-- No bit belongs to two fields (R100). -/
theorem InField.unique {f g : CfgField} {i : Nat} (hf : InField f i) (hg : InField g i) : f = g := by
  by_contra hne
  have hapart := fields_apart hne
  omega

theorem getLsbD_fieldValueMask (f : CfgField) (i : Nat) :
    (fieldValueMask f).getLsbD i = decide (i < fieldWidth f) := by
  have hfits := fieldLo_add_fieldWidth_le f
  rw [fieldValueMask, BitVec.getLsbD_ofNat, Nat.testBit_two_pow_sub_one, ← Bool.decide_and, decide_eq_decide]
  omega

theorem getLsbD_fieldMask (f : CfgField) (i : Nat) : (fieldMask f).getLsbD i = decide (InField f i) := by
  have hfits := fieldLo_add_fieldWidth_le f
  rw [fieldMask, BitVec.getLsbD_shiftLeft, getLsbD_fieldValueMask, ← decide_not, ← Bool.decide_and,
    ← Bool.decide_and, decide_eq_decide]
  omega

theorem fieldMask_and_fieldMask {f g : CfgField} (h : f ≠ g) : fieldMask f &&& fieldMask g = 0 := by
  apply BitVec.eq_of_getLsbD_eq
  intro i _
  have hdisjoint : ¬(InField f i ∧ InField g i) := fun ⟨hf, hg⟩ => h (hf.unique hg)
  rw [BitVec.getLsbD_and, getLsbD_fieldMask, getLsbD_fieldMask, ← Bool.decide_and, decide_eq_false hdisjoint]
  exact BitVec.getLsbD_zero.symm

/-- Settles O3: the table by evaluation, the disjointness from `InField.unique`. -/
theorem fieldTableIsAsGiven : Obligations.FieldTableIsAsGiven :=
  ⟨⟨rfl, rfl, rfl, rfl⟩, ⟨rfl, rfl, rfl, rfl⟩, ⟨rfl, rfl, rfl, rfl⟩, ⟨rfl, rfl, rfl, rfl⟩, ⟨rfl, rfl, rfl, rfl⟩,
    fun _ _ => ⟨rfl, rfl, rfl, rfl, rfl⟩, fun _ _ => fieldMask_and_fieldMask, rfl⟩

/-! ### The ten operations -/

/-- `PACK.f` delivers `pack f` on `OUT` and changes nothing else (R101). -/
theorem exec_packOf (f : CfgField) (c v : Word) (s : State) :
    exec (.packOf c v f) s = .next { s with outputs := ports none (some (pack f c v)) none none } := by
  cases f <;> rfl

/-- `UNPACK.f` delivers `unpack f` on `OUT` and changes nothing else (R102). -/
theorem exec_unpackOf (f : CfgField) (c : Word) (s : State) :
    exec (.unpackOf c f) s = .next { s with outputs := ports none (some (unpack f c)) none none } := by
  cases f <;> rfl

/-- Settles O1: `exec_packOf` at each field, its masks evaluated. -/
theorem packDeliversTheClosedForms : Obligations.PackDeliversTheClosedForms := fun c v s =>
  ⟨⟨exec_packOf .mode c v s, rfl⟩, ⟨exec_packOf .rate c v s, rfl⟩, ⟨exec_packOf .avg c v s, rfl⟩,
    ⟨exec_packOf .ta c v s, rfl⟩, ⟨exec_packOf .pol c v s, rfl⟩⟩

/-- Settles O2: `exec_unpackOf` at each field, its mask evaluated. -/
theorem unpackDeliversTheClosedForms : Obligations.UnpackDeliversTheClosedForms := fun c s =>
  ⟨⟨exec_unpackOf .mode c s, rfl⟩, ⟨exec_unpackOf .rate c s, rfl⟩, ⟨exec_unpackOf .avg c s, rfl⟩,
    ⟨exec_unpackOf .ta c s, rfl⟩, ⟨exec_unpackOf .pol c s, rfl⟩⟩

/-! ### Bit by bit -/

theorem getLsbD_unpack (f : CfgField) (c : Word) (i : Nat) :
    (unpack f c).getLsbD i = (decide (i < fieldWidth f) && c.getLsbD (fieldLo f + i)) := by
  rw [unpack, BitVec.getLsbD_and, BitVec.getLsbD_ushiftRight, getLsbD_fieldValueMask, Bool.and_comm]

/-- Inside the field a packed word has the bits of the value, elsewhere those of the old word (R101). -/
theorem getLsbD_pack (f : CfgField) (c v : Word) (i : Nat) :
    (pack f c v).getLsbD i = if InField f i then v.getLsbD (i - fieldLo f) else c.getLsbD i := by
  have hfits := fieldLo_add_fieldWidth_le f
  rw [pack, BitVec.getLsbD_or, BitVec.getLsbD_and, BitVec.getLsbD_and, BitVec.getLsbD_not,
    BitVec.getLsbD_shiftLeft, getLsbD_fieldMask]
  by_cases h : InField f i
  · have hword : i < 16 := by omega
    have hlo : ¬i < fieldLo f := by omega
    rw [if_pos h, decide_eq_true h]
    simp [hword, hlo]
  · have hbit : c.getLsbD i = true → i < 16 := BitVec.lt_of_getLsbD
    rw [if_neg h, decide_eq_false h]
    simpa using hbit

/-! ### What insertion leaves in each part of the word -/

theorem unpack_pack_self (f : CfgField) (c v : Word) : unpack f (pack f c v) = v &&& fieldValueMask f := by
  apply BitVec.eq_of_getLsbD_eq
  intro i _
  rw [getLsbD_unpack, BitVec.getLsbD_and, getLsbD_fieldValueMask]
  by_cases hi : i < fieldWidth f
  · have hfield : InField f (fieldLo f + i) := ⟨by omega, by omega⟩
    rw [getLsbD_pack, if_pos hfield, Nat.add_sub_cancel_left, Bool.and_comm]
  · simp [hi]

theorem unpack_pack_of_ne {f g : CfgField} (h : f ≠ g) (c v : Word) : unpack g (pack f c v) = unpack g c := by
  apply BitVec.eq_of_getLsbD_eq
  intro i _
  rw [getLsbD_unpack, getLsbD_unpack]
  by_cases hi : i < fieldWidth g
  · have hfield : InField g (fieldLo g + i) := ⟨by omega, by omega⟩
    have hother : ¬InField f (fieldLo g + i) := fun hf => h (hf.unique hfield)
    rw [getLsbD_pack, if_neg hother]
  · simp [hi]

theorem pack_and_not_fieldMask (f : CfgField) (c v : Word) :
    pack f c v &&& ~~~(fieldMask f) = c &&& ~~~(fieldMask f) := by
  apply BitVec.eq_of_getLsbD_eq
  intro i _
  by_cases h : InField f i
  · simp [getLsbD_fieldMask, h]
  · rw [BitVec.getLsbD_and, BitVec.getLsbD_and, getLsbD_pack, if_neg h]

/-- The unnamed bits lie outside every field (R114). -/
theorem not_fieldMask_and_unnamed (f : CfgField) : ~~~(fieldMask f) &&& 0xF007 = 0xF007 := by cases f <;> rfl

theorem pack_and_unnamed (f : CfgField) (c v : Word) : pack f c v &&& 0xF007 = c &&& 0xF007 := by
  rw [← not_fieldMask_and_unnamed f, ← BitVec.and_assoc, pack_and_not_fieldMask, BitVec.and_assoc]

/-- Masking to a field keeps a value that fits it. -/
theorem and_fieldValueMask_of_le {f : CfgField} {v : Word} (h : v.toNat ≤ 2 ^ fieldWidth f - 1) :
    v &&& fieldValueMask f = v := by
  have hfits : v.toNat < 2 ^ fieldWidth f := by have := Nat.two_pow_pos (fieldWidth f); omega
  apply BitVec.eq_of_getLsbD_eq
  intro i _
  rw [BitVec.getLsbD_and, getLsbD_fieldValueMask]
  by_cases hi : i < fieldWidth f
  · simp [hi]
  · have hbit : v.getLsbD i = false :=
      Nat.testBit_lt_two_pow (hfits.trans_le (Nat.pow_le_pow_right two_pos (Nat.le_of_not_lt hi)))
    simp [hbit]

/-- Settles O4. -/
theorem unpackOfPackIsTheMaskedValue : Obligations.UnpackOfPackIsTheMaskedValue := fun f c v =>
  ⟨unpack_pack_self f c v, fun h => (unpack_pack_self f c v).trans (and_fieldValueMask_of_le h)⟩

/-- Settles O5. -/
theorem packKeepsEveryOtherBit : Obligations.PackKeepsEveryOtherBit := fun f c v =>
  ⟨pack_and_not_fieldMask f c v, pack_and_unnamed f c v⟩

/-! ### A word is its unnamed bits and its five unpacked values -/

/-- An unpacked value put back in place is the word masked to the field (R117). -/
theorem unpack_shiftLeft (f : CfgField) (c : Word) : unpack f c <<< fieldLo f = c &&& fieldMask f := by
  apply BitVec.eq_of_getLsbD_eq
  intro i hword
  rw [BitVec.getLsbD_shiftLeft, getLsbD_unpack, BitVec.getLsbD_and, getLsbD_fieldMask]
  by_cases hlo : fieldLo f ≤ i
  · have hwidth : i - fieldLo f < fieldWidth f ↔ InField f i := by omega
    simp [hword, hlo, hwidth, Bool.and_comm]
  · simp [hlo, Nat.lt_of_not_le hlo]

theorem word_decomposition (c : Word) :
    c = (c &&& (0xF007 : Word)) ||| (unpack .mode c <<< fieldLo .mode) ||| (unpack .rate c <<< fieldLo .rate) |||
      (unpack .avg c <<< fieldLo .avg) ||| (unpack .ta c <<< fieldLo .ta) ||| (unpack .pol c <<< fieldLo .pol) := by
  have hcover : (0xF007 : Word) ||| fieldMask .mode ||| fieldMask .rate ||| fieldMask .avg ||| fieldMask .ta |||
      fieldMask .pol = BitVec.allOnes 16 := rfl
  calc c = c &&& BitVec.allOnes 16 := BitVec.and_allOnes.symm
    _ = (c &&& 0xF007) ||| (c &&& fieldMask .mode) ||| (c &&& fieldMask .rate) ||| (c &&& fieldMask .avg) |||
        (c &&& fieldMask .ta) ||| (c &&& fieldMask .pol) := by simp only [← hcover, BitVec.and_or_distrib_left]
    _ = _ := by simp only [unpack_shiftLeft]

/-- Words with the same unnamed bits and the same unpacked values are the same word (R117). -/
theorem word_ext {c d : Word} (hunnamed : c &&& 0xF007 = d &&& 0xF007) (hfields : ∀ f, unpack f c = unpack f d) :
    c = d := by
  rw [word_decomposition c, word_decomposition d, hunnamed]
  simp only [hfields]

/-- The word with the unnamed bits of `u` and the five given raw values: each inserted into its field. -/
def wordOfParts (u m r a t p : Word) : Word :=
  pack .mode (pack .rate (pack .avg (pack .ta (pack .pol u p) t) a) r) m

theorem wordOfParts_and_unnamed (u m r a t p : Word) : wordOfParts u m r a t p &&& 0xF007 = u &&& 0xF007 := by
  simp only [wordOfParts, pack_and_unnamed]

theorem unpack_wordOfParts (u m r a t p : Word) :
    unpack .mode (wordOfParts u m r a t p) = m &&& fieldValueMask .mode ∧
    unpack .rate (wordOfParts u m r a t p) = r &&& fieldValueMask .rate ∧
    unpack .avg (wordOfParts u m r a t p) = a &&& fieldValueMask .avg ∧
    unpack .ta (wordOfParts u m r a t p) = t &&& fieldValueMask .ta ∧
    unpack .pol (wordOfParts u m r a t p) = p &&& fieldValueMask .pol := by
  simp [wordOfParts, unpack_pack_self, unpack_pack_of_ne]

/-- Settles O8: `wordOfParts` is the word of a tuple, and by `word_ext` the only one. -/
theorem wordsDecomposeIntoFields : Obligations.WordsDecomposeIntoFields := by
  refine ⟨word_decomposition, ?_⟩
  intro u m r a t p hu hm hr ha ht hp
  obtain ⟨hmode, hrate, havg, hta, hpol⟩ := unpack_wordOfParts u m r a t p
  rw [and_fieldValueMask_of_le hm] at hmode
  rw [and_fieldValueMask_of_le hr] at hrate
  rw [and_fieldValueMask_of_le ha] at havg
  rw [and_fieldValueMask_of_le ht] at hta
  rw [and_fieldValueMask_of_le hp] at hpol
  have hunnamed := (wordOfParts_and_unnamed u m r a t p).trans hu
  refine ⟨wordOfParts u m r a t p, ⟨hunnamed, hmode, hrate, havg, hta, hpol⟩, ?_⟩
  rintro d ⟨hd, hdm, hdr, hda, hdt, hdp⟩
  refine word_ext (hd.trans hunnamed.symm) fun f => ?_
  cases f with
  | mode => exact hdm.trans hmode.symm
  | rate => exact hdr.trans hrate.symm
  | avg => exact hda.trans havg.symm
  | ta => exact hdt.trans hta.symm
  | pol => exact hdp.trans hpol.symm

/-! ### The laws of insertion -/

/-- An unpacked value is within its field (R102). -/
theorem unpack_and_fieldValueMask (f : CfgField) (c : Word) : unpack f c &&& fieldValueMask f = unpack f c :=
  and_fieldValueMask_of_le (Nat.le_sub_one_of_lt (unpack_toNat_lt f c))

theorem pack_unpack_self (f : CfgField) (c : Word) : pack f c (unpack f c) = c := by
  refine word_ext (pack_and_unnamed f c _) fun g => ?_
  by_cases h : f = g
  · subst h
    rw [unpack_pack_self, unpack_and_fieldValueMask]
  · rw [unpack_pack_of_ne h]

theorem pack_pack_self (f : CfgField) (c u v : Word) : pack f (pack f c u) v = pack f c v := by
  refine word_ext (by simp only [pack_and_unnamed]) fun g => ?_
  by_cases h : f = g
  · subst h
    rw [unpack_pack_self, unpack_pack_self]
  · simp only [unpack_pack_of_ne h]

theorem pack_comm {f g : CfgField} (h : f ≠ g) (c u v : Word) :
    pack f (pack g c u) v = pack g (pack f c v) u := by
  refine word_ext (by simp only [pack_and_unnamed]) fun k => ?_
  by_cases hf : f = k
  · subst hf
    rw [unpack_pack_self, unpack_pack_of_ne h.symm, unpack_pack_self]
  · by_cases hg : g = k
    · subst hg
      rw [unpack_pack_of_ne hf, unpack_pack_self, unpack_pack_self]
    · simp only [unpack_pack_of_ne hf, unpack_pack_of_ne hg]

/-- Settles O6. -/
theorem reinsertionIsIdentityAndLastInsertionWins : Obligations.ReinsertionIsIdentityAndLastInsertionWins :=
  fun f c u v => ⟨pack_unpack_self f c, pack_pack_self f c u v⟩

/-- Settles O7. -/
theorem fieldsAreIndependent : Obligations.FieldsAreIndependent := fun _ _ c u v h =>
  ⟨unpack_pack_of_ne h c v, pack_comm h c u v⟩

end Sys2Proof.Machine

/-!
PROOFS. The statements of `42_temperature_scaler.md`: what the four operations deliver, truncation toward zero, and the
laws between codes and reals. Everything about `RAW2C` is read off the value of its result (`f32Num_raw2c`), everything
about `C2RAW` off its code in range (`sint16_c2raw`).
-/

namespace Sys2Proof.Machine

/-! ### What the operations deliver -/

theorem exec_raw2c (w : Word) (s : State) :
    exec (.raw2c w) s = .next { s with outputs := ports none none none (some (raw2c w)) } := rfl

theorem exec_c2raw (x : Real32) (s : State) :
    exec (.c2raw x) s = .next { s with outputs := ports none none (some (c2raw x)) none } := rfl

theorem exec_c2f (x : Real32) (s : State) :
    exec (.c2f x) s = .next { s with outputs := ports none none none (some (c2f x)) } := rfl

theorem exec_raw2f (w : Word) (s : State) :
    exec (.raw2f w) s = .next { s with outputs := ports none none none (some (c2f (raw2c w))) } := rfl

/-! ### Signed words -/

theorem sint16_eq_toInt (w : Word) : sint16 w = w.toInt := by
  rw [BitVec.toInt_eq_toNat_cond, sint16]
  split_ifs <;> omega

@[simp] theorem u16_sint16 (w : Word) : u16 (sint16 w) = w := by
  rw [sint16_eq_toInt, u16, BitVec.ofInt_toInt]

theorem sint16_u16 {n : Int} (hlo : -32768 ≤ n) (hhi : n ≤ 32767) : sint16 (u16 n) = n := by
  rw [sint16_eq_toInt, u16, BitVec.toInt_ofInt, Int.bmod_eq_of_le] <;> omega

theorem sint16_bounds (w : Word) : -32768 ≤ sint16 w ∧ sint16 w ≤ 32767 := by
  have hw := w.isLt
  rw [sint16]
  split_ifs <;> omega

theorem sint16_eq_zero_iff {w : Word} : sint16 w = 0 ↔ w = 0 := by
  constructor
  · intro h
    rw [← u16_sint16 w, h]
    rfl
  · rintro rfl
    rfl

/-! ### The value of a binary32 image -/

theorem f32Sign_eq (x : Real32) : f32Sign x = decide (2 ^ 31 ≤ x.toNat) :=
  BitVec.msb_eq_decide x

theorem f32Exp_eq (x : Real32) : f32Exp x = x.toNat / 2 ^ 23 % 2 ^ 8 := by
  rw [f32Exp, BitVec.extractLsb'_toNat, Nat.shiftRight_eq_div_pow]

theorem f32Frac_eq (x : Real32) : f32Frac x = x.toNat % 2 ^ 23 := by
  rw [f32Frac, BitVec.extractLsb'_toNat, Nat.shiftRight_zero]

/-- The three parts of an image, read off its number (R86). -/
theorem f32_parts {x : Real32} {neg : Bool} {e f : Nat} (hx : x.toNat = neg.toNat * 2 ^ 31 + e * 2 ^ 23 + f)
    (he : e < 2 ^ 8) (hf : f < 2 ^ 23) : f32Sign x = neg ∧ f32Exp x = e ∧ f32Frac x = f := by
  rw [f32Sign_eq, f32Exp_eq, f32Frac_eq, hx]
  cases neg with
  | false => simp only [Bool.toNat_false, decide_eq_false_iff_not]; omega
  | true => simp only [Bool.toNat_true, decide_eq_true_iff]; omega

/-- A code step is 2^142 of the quanta in which `f32Num` counts (R86, R130). -/
theorem f32Val_mul_codes (x : Real32) : f32Val x * 128 = (f32Num x : ℚ) / ((2 ^ 142 : Nat) : ℚ) := by
  rw [f32Val]
  push_cast
  ring

/-! ### `RAW2C` -/

theorem raw2c_zero : raw2c 0 = 0x00000000#32 := rfl

section Raw2cParts

variable {w : Word} (h : sint16 w ≠ 0)
include h

/-- Scaled by 2^(23-e), the magnitude of a code has its top bit at place 23: there the format leaves it out (R86). -/
theorem code_scaled_bounds : Nat.log2 (sint16 w).natAbs ≤ 15 ∧
    2 ^ 23 ≤ (sint16 w).natAbs * 2 ^ (23 - Nat.log2 (sint16 w).natAbs) ∧
    (sint16 w).natAbs * 2 ^ (23 - Nat.log2 (sint16 w).natAbs) < 2 ^ 24 := by
  obtain ⟨hlo, hhi⟩ := sint16_bounds w
  have hm : (sint16 w).natAbs ≠ 0 := by omega
  have htop : Nat.log2 (sint16 w).natAbs < 16 := (Nat.log2_lt hm).2 (by omega)
  generalize he : Nat.log2 (sint16 w).natAbs = e at *
  refine ⟨by omega, ?_, ?_⟩
  · calc 2 ^ 23 = 2 ^ e * 2 ^ (23 - e) := by rw [← pow_add]; congr 1; omega
      _ ≤ _ := Nat.mul_le_mul_right _ (he ▸ Nat.log2_self_le hm)
  · calc _ < 2 ^ (e + 1) * 2 ^ (23 - e) := Nat.mul_lt_mul_of_pos_right (he ▸ Nat.lt_log2_self) (by positivity)
      _ = 2 ^ 24 := by rw [← pow_add]; congr 1; omega

theorem raw2c_parts : f32Sign (raw2c w) = decide (sint16 w < 0) ∧
    f32Exp (raw2c w) = Nat.log2 (sint16 w).natAbs + 120 ∧
    2 ^ 23 + f32Frac (raw2c w) = (sint16 w).natAbs * 2 ^ (23 - Nat.log2 (sint16 w).natAbs) := by
  obtain ⟨he, hlo, hhi⟩ := code_scaled_bounds h
  have himage : (raw2c w).toNat = (decide (sint16 w < 0)).toNat * 2 ^ 31 +
      (Nat.log2 (sint16 w).natAbs + 120) * 2 ^ 23 +
      ((sint16 w).natAbs * 2 ^ (23 - Nat.log2 (sint16 w).natAbs) - 2 ^ 23) := by
    have hm : (sint16 w).natAbs ≠ 0 := by omega
    simp only [raw2c, if_neg hm, BitVec.toNat_ofNat]
    by_cases hneg : sint16 w < 0
    · rw [if_pos hneg, decide_eq_true hneg, Bool.toNat_true]
      omega
    · rw [if_neg hneg, decide_eq_false hneg, Bool.toNat_false]
      omega
  obtain ⟨hsign, hexp, hfrac⟩ := f32_parts himage (by omega) (by omega)
  exact ⟨hsign, hexp, by omega⟩

end Raw2cParts

/-- `RAW2C` is exact (R131): a code is that many times 2^142 quanta. -/
theorem f32Num_raw2c (w : Word) : f32Num (raw2c w) = sint16 w * 2 ^ 142 := by
  by_cases h : sint16 w = 0
  · rw [sint16_eq_zero_iff.1 h]
    rfl
  · obtain ⟨hsign, hexp, hfrac⟩ := raw2c_parts h
    obtain ⟨he, -, -⟩ := code_scaled_bounds h
    have hmag : f32Mag (raw2c w) = (sint16 w).natAbs * 2 ^ 142 := by
      rw [f32Mag, if_neg (by omega), hfrac, hexp, mul_assoc, ← pow_add]
      congr 2
      omega
    simp only [f32Num, hsign, hmag, decide_eq_true_iff]
    split_ifs with hneg <;> omega

theorem f32Val_raw2c (w : Word) : f32Val (raw2c w) = (sint16 w : ℚ) / 128 := by
  rw [f32Val, f32Num_raw2c]
  push_cast
  ring

theorem raw2c_zero_or_normal (w : Word) : raw2c w = 0x00000000#32 ∨ f32Exp (raw2c w) ≠ 0 := by
  by_cases h : sint16 w = 0
  · exact .inl (by rw [sint16_eq_zero_iff.1 h, raw2c_zero])
  · obtain ⟨-, hexp, -⟩ := raw2c_parts h
    exact .inr (by omega)

theorem f32Finite_raw2c (w : Word) : f32Finite (raw2c w) = true := by
  rw [f32Finite, bne_iff_ne]
  by_cases h : sint16 w = 0
  · rw [sint16_eq_zero_iff.1 h]
    decide
  · obtain ⟨-, hexp, -⟩ := raw2c_parts h
    obtain ⟨he, -, -⟩ := code_scaled_bounds h
    omega

/-- Settles O11. -/
theorem raw2cIsExact : Obligations.Raw2cIsExact := by
  intro w s
  have hnegZero : raw2c w ≠ 0x80000000#32 := by
    intro h
    have hparts := raw2c_zero_or_normal w
    rw [h] at hparts
    revert hparts
    decide
  exact ⟨rfl, raw2c w, exec_raw2c w s, f32Finite_raw2c w, f32Val_raw2c w, fun h => h ▸ raw2c_zero, hnegZero,
    raw2c_zero_or_normal w⟩

/-! ### Truncation toward zero -/

theorem truncQ_of_nonneg {q : ℚ} (h : 0 ≤ q) : truncQ q = ⌊q⌋ := if_pos h

theorem truncQ_of_neg {q : ℚ} (h : q < 0) : truncQ q = ⌈q⌉ := if_neg h.not_ge

/-- Truncation toward zero is odd, so that what follows is proved on one side of 0 only (R10). -/
theorem truncQ_neg (q : ℚ) : truncQ (-q) = -truncQ q := by
  rcases lt_trichotomy q 0 with h | rfl | h
  · rw [truncQ_of_neg h, truncQ_of_nonneg (by linarith), Int.floor_neg]
  · simp [truncQ]
  · rw [truncQ_of_nonneg h.le, truncQ_of_neg (by linarith), Int.ceil_neg]

@[simp] theorem truncQ_intCast (n : Int) : truncQ (n : ℚ) = n := by simp [truncQ]

theorem truncQ_le_iff {q : ℚ} {k : Int} (hk : 0 ≤ k) : truncQ q ≤ k ↔ q < k + 1 := by
  have hk' : (0 : ℚ) ≤ k := by exact_mod_cast hk
  rcases lt_or_ge q 0 with h | h
  · rw [truncQ_of_neg h, Int.ceil_le]
    constructor <;> intro <;> linarith
  · rw [truncQ_of_nonneg h, ← Int.lt_add_one_iff, Int.floor_lt]
    push_cast
    rfl

theorem neg_le_truncQ_iff {q : ℚ} {k : Int} (hk : 0 ≤ k) : -k ≤ truncQ q ↔ -(k + 1 : ℚ) < q := by
  rw [neg_le, ← truncQ_neg, truncQ_le_iff hk, neg_lt]

theorem truncQ_mono : Monotone truncQ := by
  intro p q hpq
  rcases lt_or_ge p 0 with hp | hp
  · rw [truncQ_of_neg hp]
    rcases lt_or_ge q 0 with hq | hq
    · rw [truncQ_of_neg hq]
      exact Int.ceil_mono hpq
    · rw [truncQ_of_nonneg hq]
      exact (Int.ceil_le.2 (by exact_mod_cast hp.le)).trans (Int.floor_nonneg.2 hq)
  · rw [truncQ_of_nonneg hp, truncQ_of_nonneg (hp.trans hpq)]
    exact Int.floor_mono hpq

/-- A truncated rational lies between it and 0, less than 1 away. -/
theorem truncQ_between (q : ℚ) : |q - truncQ q| < 1 ∧
    ((0 ≤ (truncQ q : ℚ) ∧ (truncQ q : ℚ) ≤ q) ∨ (q ≤ truncQ q ∧ (truncQ q : ℚ) ≤ 0)) := by
  rw [abs_lt]
  rcases lt_or_ge q 0 with h | h
  · rw [truncQ_of_neg h]
    have hle := Int.le_ceil q
    have hlt := Int.ceil_lt_add_one q
    have hsign : ((⌈q⌉ : Int) : ℚ) ≤ 0 := by exact_mod_cast Int.ceil_le.2 (by exact_mod_cast h.le)
    exact ⟨⟨by linarith, by linarith⟩, .inr ⟨hle, hsign⟩⟩
  · rw [truncQ_of_nonneg h]
    have hle := Int.floor_le q
    have hlt := Int.lt_floor_add_one q
    have hsign : (0 : ℚ) ≤ ((⌊q⌋ : Int) : ℚ) := by exact_mod_cast Int.floor_nonneg.2 h
    exact ⟨⟨by linarith, by linarith⟩, .inl ⟨hsign, hle⟩⟩

/-! ### `C2RAW` -/

/-- The division of magnitudes in `truncCode` is truncation toward zero of the rational (R132). -/
theorem truncCode_eq_truncQ (x : Real32) : truncCode x = truncQ (f32Val x * 128) := by
  have hmag : truncQ ((f32Mag x : ℚ) / ((2 ^ 142 : Nat) : ℚ)) = (f32Mag x / 2 ^ 142 : Nat) := by
    rw [truncQ_of_nonneg (by positivity), Rat.floor_natCast_div_natCast, Int.natCast_div]
  rw [f32Val_mul_codes, truncCode, f32Num]
  cases f32Sign x with
  | false => simpa using hmag.symm
  | true => simp only [if_true, ← hmag, ← truncQ_neg, Int.cast_neg, Int.cast_natCast, neg_div]

/-- The truncation fits a code exactly on the open interval of R132. -/
theorem truncQ_fits_iff (v : ℚ) : (-32768 ≤ truncQ (v * 128) ∧ truncQ (v * 128) ≤ 32767) ↔
    (-(32769 / 128 : ℚ) < v ∧ v < 256) := by
  have hlo := neg_le_truncQ_iff (q := v * 128) (k := 32768) (by decide)
  have hhi := truncQ_le_iff (q := v * 128) (k := 32767) (by decide)
  push_cast at hlo hhi
  rw [hlo, hhi]
  constructor <;> rintro ⟨h1, h2⟩ <;> constructor <;> linarith

theorem c2raw_of_inCodeRange {x : Real32} (h : inCodeRange x) : c2raw x = u16 (truncQ (f32Val x * 128)) := by
  obtain ⟨hfin, hrange⟩ := h
  obtain ⟨hlo, hhi⟩ := (truncQ_fits_iff _).2 hrange
  rw [← truncCode_eq_truncQ] at *
  simp [c2raw, c2rawInRange, hfin, hlo, hhi]

theorem sint16_c2raw {x : Real32} (h : inCodeRange x) : sint16 (c2raw x) = truncQ (f32Val x * 128) := by
  obtain ⟨hlo, hhi⟩ := (truncQ_fits_iff _).2 h.2
  rw [c2raw_of_inCodeRange h, sint16_u16 hlo hhi]

/-- Settles O12. -/
theorem c2rawTruncatesTowardZero : Obligations.C2rawTruncatesTowardZero := by
  intro x s
  refine ⟨rfl, fun hfin hlo hhi => ?_, ⟨c2raw x, exec_c2raw x s⟩, truncQ_fits_iff _⟩
  rw [exec_c2raw, c2raw_of_inCodeRange ⟨hfin, (truncQ_fits_iff _).1 ⟨hlo, hhi⟩⟩]

/-! ### The laws between codes and reals -/

/-- The real of a code is a whole number of counts, which truncation keeps (R136). -/
theorem truncQ_raw2c (w : Word) : truncQ (f32Val (raw2c w) * 128) = sint16 w := by
  rw [f32Val_raw2c, div_mul_cancel₀ _ (by norm_num), truncQ_intCast]

theorem inCodeRange_raw2c (w : Word) : inCodeRange (raw2c w) :=
  ⟨f32Finite_raw2c w, (truncQ_fits_iff _).1 ((truncQ_raw2c w).symm ▸ sint16_bounds w)⟩

/-- A code survives the way to a real and back (R136). -/
@[simp] theorem c2raw_raw2c (w : Word) : c2raw (raw2c w) = w := by
  rw [c2raw_of_inCodeRange (inCodeRange_raw2c w), truncQ_raw2c, u16_sint16]

/-- The way to a code and back truncates a real to whole counts (R136). -/
theorem f32Val_raw2c_c2raw {x : Real32} (h : inCodeRange x) :
    f32Val (raw2c (c2raw x)) = (truncQ (f32Val x * 128) : ℚ) / 128 := by
  rw [f32Val_raw2c, sint16_c2raw h]

/-- Settles O15: the second law is `truncQ_between`, a count being 1/128. -/
theorem scalerRoundTrip : Obligations.ScalerRoundTrip := by
  refine ⟨fun w s => ⟨raw2c w, exec_raw2c w s, by rw [exec_c2raw, c2raw_raw2c]⟩, fun x hx => ?_⟩
  obtain ⟨hdist, hside⟩ := truncQ_between (f32Val x * 128)
  obtain ⟨hbelow, habove⟩ := abs_lt.1 hdist
  rw [f32Val_raw2c_c2raw hx]
  refine ⟨abs_lt.2 ⟨by linarith, by linarith⟩, ?_⟩
  rcases hside with ⟨hzero, hle⟩ | ⟨hge, hzero⟩
  · exact .inl ⟨by linarith, by linarith⟩
  · exact .inr ⟨by linarith, by linarith⟩

/-- Below one count from 0 truncation gives code 0 (R138). -/
theorem c2raw_eq_zero {x : Real32} (hfin : f32Finite x = true) (h : |f32Val x| < 1 / 128) : c2raw x = 0 := by
  obtain ⟨hlo, hhi⟩ := abs_lt.1 h
  have hx : inCodeRange x := ⟨hfin, by linarith, by linarith⟩
  have hle : truncQ (f32Val x * 128) ≤ 0 := (truncQ_le_iff le_rfl).2 (by push_cast; linarith)
  have hge : -0 ≤ truncQ (f32Val x * 128) := (neg_le_truncQ_iff le_rfl).2 (by push_cast; linarith)
  exact sint16_eq_zero_iff.1 ((sint16_c2raw hx).trans (by omega))

theorem c2raw_neg {x y : Real32} (hx : inCodeRange x) (hy : inCodeRange y) (h : f32Val y = -f32Val x) :
    c2raw y = u16 (-sint16 (c2raw x)) := by
  rw [c2raw_of_inCodeRange hy, h, neg_mul, truncQ_neg, sint16_c2raw hx]

/-- Settles O17. -/
theorem scalerOrderAndSign : Obligations.ScalerOrderAndSign := by
  refine ⟨fun a b => ?_, fun x y hx hy h => ?_, fun x y hx hy h _ => c2raw_neg hx hy h, fun x => c2raw_eq_zero⟩
  · rw [f32Val_raw2c, f32Val_raw2c, div_lt_div_iff_of_pos_right (by norm_num), Int.cast_lt]
  · rw [sint16_c2raw hx, sint16_c2raw hy]
    exact truncQ_mono (by linarith)

/-! ### `C2F` and the named candidates -/

theorem c2f_zero : c2f 0x00000000#32 = 0x42000000#32 := rfl

theorem c2f_hundred : c2f 0x42C80000#32 = 0x43540000#32 := rfl

theorem candidates_negForty :
    c2fSingle 0xC2200000#32 = some 0xC2200000#32 ∧ c2fDouble 0xC2200000#32 = some 0xC2200000#32 := by decide +kernel

/-- Settles O13: the function is `c2f`. -/
theorem fahrenheitIsOneFunctionWithItsTwoPoints : Obligations.FahrenheitIsOneFunctionWithItsTwoPoints :=
  ⟨⟨c2f, c2f_zero, c2f_hundred, fun x s => ⟨exec_c2f x s, rfl⟩,
    fun w s => ⟨rfl, raw2c w, exec_raw2c w s, exec_raw2f w s⟩⟩, candidates_negForty⟩

/-- Settles O14, by evaluation of the candidates at the images of the five codes. -/
theorem namedCandidatesTakeTheGivenPoints : Obligations.NamedCandidatesTakeTheGivenPoints := by
  have hnegForty : raw2c 0xEC00 = 0xC2200000#32 := by decide
  have hleast : raw2c 0x8000 = 0xC3800000#32 := by decide
  have hgreatest : raw2c 0x7FFF = 0x437FFE00#32 := by decide
  rw [Obligations.NamedCandidatesTakeTheGivenPoints, hnegForty, hleast, hgreatest]
  refine ⟨by decide +kernel, by decide +kernel, candidates_negForty, by decide +kernel, by decide +kernel⟩

/-- Settles O16. -/
theorem fixedPointsOfTheScaler : Obligations.FixedPointsOfTheScaler := by
  intro s
  have hone : raw2c 0x0080 = 0x3F800000#32 := by decide
  have hnegOne : raw2c 0xFF80 = 0xBF800000#32 := by decide
  simp only [exec_raw2c, exec_c2f, raw2c_zero, hone, hnegOne, c2f_zero, c2f_hundred, and_self]

end Sys2Proof.Machine

/-!
PROOFS. The statements of `43_config_accessors.md`: raw register access, the setters and getters of the configuration
fields, and the reset write. Each operation is first reduced to the transactions it makes; the outcomes of those are
then read off the laws of one read and of one write.
-/

namespace Sys2Proof.Machine

/-! ### An operation of one transaction -/

section Transactions

variable {s : State} {i : Instr} {a : SReg} {o : Word → Outputs} {v : Word}

theorem readAndFinish_done (h : s.event.answer = .done) :
    readAndFinish a o s = .next (setOutputs (o ((s.found a).get a)) (readDone a s)) := by
  rw [readAndFinish, memRead_done h, orRaise_done, finish_eq]

theorem readAndFinish_failed (h : s.event.answer = .failed) :
    readAndFinish a o s = .next (raised .transportError (readFailed a s)) := by
  rw [readAndFinish, memRead_failed h, orRaise_failed, raise_eq]

theorem writeAndFinish_done (h : s.event.answer = .done) :
    writeAndFinish a v s = .next (setOutputs okNothing (writeDone a v s)) := by
  rw [writeAndFinish, memWrite_done h, orRaise_done, finish_eq]

theorem writeAndFinish_failed (h : s.event.answer = .failed) :
    writeAndFinish a v s = .next (raised .transportError (writeFailed a v s)) := by
  rw [writeAndFinish, memWrite_failed h, orRaise_failed, raise_eq]

/-- An operation that comes to one read on a ready handle has the two outcomes of one read. -/
theorem readsInto_of_exec (h : ∀ s : State, s.isReady → exec i s = readAndFinish a o s) : ReadsInto i a o := by
  intro s hs
  rw [h s hs]
  exact ⟨readAndFinish_done, fun he => ⟨_, rfl, readAndFinish_failed he⟩⟩

/-- An operation that comes to one write in a state has the two outcomes of one write there. -/
theorem writesAt_of_exec (h : exec i s = writeAndFinish a v s) : WritesAt i a v s := by
  rw [WritesAt, h]
  exact ⟨writeAndFinish_done, fun he => ⟨_, rfl, writeAndFinish_failed he⟩⟩

theorem writesOnce_of_exec (h : ∀ s : State, s.isReady → exec i s = writeAndFinish a v s) : WritesOnce i a v :=
  fun s hs => writesAt_of_exec (h s hs)

end Transactions

/-! ### Raw access and the reset write -/

/-- The addresses that are in no entry of the register map (R28, R38). -/
theorem regAt_eq_none_iff {b : Byte} : regAt b = none ↔ 0x08 < b.toNat ∧ b.toNat ≠ 0x0F := by
  unfold regAt
  split <;> grind

/-- The addresses of the registers that `WRREG` admits (R37). -/
theorem wrregAdmits_iff {a : SReg} : wrregAdmits a = true ↔
    regAddr a = 0x01 ∨ regAddr a = 0x02 ∨ regAddr a = 0x03 ∨ regAddr a = 0x04 ∨ regAddr a = 0x07 := by
  cases a <;> decide

section Refused

variable {s : State} {addr : Byte}

/-- `RDREG` of an address that is in no entry of the register map is refused (R160). -/
theorem exec_rdreg_refused (hs : s.isReady) (ha : regAt addr = none) :
    exec (.rdreg addr) s = .refused (.readAddress addr) := by
  change execRdreg addr s = _
  rw [execRdreg, onHandle_ready hs, ha]

/-- `WRREG` to an address that has no admitted register is refused (R161). -/
theorem exec_wrreg_refused (hs : s.isReady) (ha : ∀ a, regAt addr = some a → wrregAdmits a = false) (v : Word) :
    exec (.wrreg addr v) s = .refused (.writeAddress addr) := by
  change execWrreg addr v s = _
  rw [execWrreg, onHandle_ready hs]
  cases hr : regAt addr with
  | none => rfl
  | some a => simp [ha a hr]

end Refused

/-- Settles O24. -/
theorem rdregReadsTheNamedRegister : Obligations.RdregReadsTheNamedRegister :=
  ⟨fun a => readsInto_of_exec fun _ hs => exec_rdreg hs a,
    fun _ _ hs hhole hid => exec_rdreg_refused hs (regAt_eq_none_iff.mpr ⟨hhole, hid⟩), fun _ => rfl⟩

/-- `WRREG` of an admitted register is one write of it (R161). -/
theorem wrreg_writesOnce {a : SReg} (ha : wrregAdmits a = true) (v : Word) : WritesOnce (.wrreg (regAddr a) v) a v :=
  writesOnce_of_exec fun _ hs => exec_wrreg hs ha v

/-- Settles O25: the register of an address that is none of the five is not admitted. -/
theorem wrregWritesTheAdmittedRegisters : Obligations.WrregWritesTheAdmittedRegisters := by
  refine ⟨fun v => ⟨wrreg_writesOnce (a := .cfg) rfl v, wrreg_writesOnce (a := .high) rfl v,
    wrreg_writesOnce (a := .low) rfl v, wrreg_writesOnce (a := .unlock) rfl v,
    wrreg_writesOnce (a := .offset) rfl v⟩, ?_, fun _ _ => rfl⟩
  intro addr v s hs h1 h2 h3 h4 h7
  refine exec_wrreg_refused hs (fun a ha => ?_) v
  rw [Bool.eq_false_iff, ne_eq, wrregAdmits_iff, regAddr_of_regAt ha]
  simp only [h1, h2, h3, h4, h7, or_self, not_false_eq_true]

/-- `RESET` is one write of the reset sentinel (R175). -/
theorem exec_resetSensor {s : State} (hs : s.isReady) :
    exec .resetSensor s = writeAndFinish .cfg resetSentinel s := by
  change execResetSensor s = _
  rw [execResetSensor, onHandle_ready hs]

/-- Settles O28. -/
theorem resetIsOneBlindWrite : Obligations.ResetIsOneBlindWrite :=
  ⟨writesOnce_of_exec fun _ => exec_resetSensor, rfl⟩

/-! ### Getters -/

section Fields

variable {s : State}

/-- `GET.f` is one read of `CFG`, whose field `f` it delivers (R168). -/
theorem exec_getOf (hs : s.isReady) (f : CfgField) :
    exec (.getOf f) s = readAndFinish .cfg (fun c => okOut (unpack f c)) s := by
  have hget : exec (.getOf f) s = getField f s := by cases f <;> rfl
  rw [hget, getField, onHandle_ready hs]

theorem exec_getOf_done (hs : s.isReady) (f : CfgField) (h : s.event.answer = .done) :
    exec (.getOf f) s = .next (setOutputs (okOut (unpack f (s.found .cfg).cfg)) (readDone .cfg s)) :=
  (exec_getOf hs f).trans (readAndFinish_done h)

theorem getOf_readsInto (f : CfgField) : ReadsInto (.getOf f) .cfg (fun c => okOut (unpack f c)) :=
  readsInto_of_exec fun _ hs => exec_getOf hs f

end Fields

/-- Settles O27: `getOf_readsInto` at each field, its mask evaluated. -/
theorem gettersReadAndExtract : Obligations.GettersReadAndExtract :=
  ⟨⟨getOf_readsInto .mode, rfl⟩, ⟨getOf_readsInto .rate, rfl⟩, ⟨getOf_readsInto .avg, rfl⟩,
    ⟨getOf_readsInto .ta, rfl⟩, ⟨getOf_readsInto .pol, rfl⟩⟩

/-! ### Setters -/

section Setters

variable {s : State} (f : CfgField) (v : Word)

/-- The word `SET.f` writes back: the field inserted into the word it read (R162). -/
abbrev updatedCfg (s : State) : Word := pack f (s.found .cfg).cfg v

/-- The state after `SET.f` whose two transactions completed (R162). -/
abbrev setFieldDone (s : State) : State :=
  setOutputs okNothing (writeDone .cfg (updatedCfg f v s) (readDone .cfg s))

/-- `SET.f` is a read of `CFG`, then a write of the word read with the field inserted (R162). -/
theorem exec_setOf (hs : s.isReady) :
    exec (.setOf v f) s = (memRead .cfg s).orRaise fun c s1 => writeAndFinish .cfg (pack f c v) s1 := by
  have hset : exec (.setOf v f) s = setField f v s := by cases f <;> rfl
  rw [hset, setField, onHandle_ready hs]

theorem exec_setOf_readFailed (hs : s.isReady) (h : s.event.answer = .failed) :
    exec (.setOf v f) s = .next (raised .transportError (readFailed .cfg s)) := by
  rw [exec_setOf f v hs, memRead_failed h, orRaise_failed, raise_eq]

/-- After a completed read, `SET.f` is the write. -/
theorem exec_setOf_readDone (hs : s.isReady) (h : s.event.answer = .done) :
    exec (.setOf v f) s = writeAndFinish .cfg (updatedCfg f v s) (readDone .cfg s) := by
  rw [exec_setOf f v hs, memRead_done h, orRaise_done, Sensor.get_cfg]

theorem exec_setOf_writeFailed (hs : s.isReady) (h : s.event.answer = .done)
    (h' : (s.eventAt (s.pos + 1)).answer = .failed) :
    exec (.setOf v f) s =
      .next (raised .transportError (writeFailed .cfg (updatedCfg f v s) (readDone .cfg s))) :=
  (exec_setOf_readDone f v hs h).trans (writeAndFinish_failed h')

theorem exec_setOf_done (hs : s.isReady) (h : s.event.answer = .done)
    (h' : (s.eventAt (s.pos + 1)).answer = .done) : exec (.setOf v f) s = .next (setFieldDone f v s) :=
  (exec_setOf_readDone f v hs h).trans (writeAndFinish_done h')

/-- The three outcomes of the pair of transactions (R162). -/
theorem setOf_updatesCfg : UpdatesCfg (.setOf v f) (fun c => pack f c v) := by
  intro s hs
  refine ⟨fun h h' => ?_, fun h => ⟨_, rfl, exec_setOf_readFailed f v hs h⟩, fun h h' =>
    ⟨failedWith .transportError s.draws, rfl, ?_⟩⟩
  · rw [exec_setOf_done f v hs h h', setFieldDone, setOutputs, writeDone_trace, readDone_trace, List.append_assoc]
    rfl
  · rw [exec_setOf_writeFailed f v hs h h', raised, writeFailed_trace, readDone_trace, List.append_assoc]
    rfl

end Setters

/-- Settles O26: `setOf_updatesCfg` at each field, its masks evaluated. -/
theorem settersReadInsertAndWriteBack : Obligations.SettersReadInsertAndWriteBack := fun v =>
  ⟨⟨setOf_updatesCfg .mode v, rfl⟩, ⟨setOf_updatesCfg .rate v, rfl⟩, ⟨setOf_updatesCfg .avg v, rfl⟩,
    ⟨setOf_updatesCfg .ta v, rfl⟩, ⟨setOf_updatesCfg .pol v, rfl⟩⟩

/-! ### A setter, then a getter -/

section SetThenGet

variable {s : State} (f g : CfgField) (v w : Word)

/-- A getter after a completed setter delivers its field of the word it finds. -/
theorem exec_getOf_setFieldDone (hs : s.isReady) (h : (s.eventAt (s.pos + 2)).answer = .done) :
    ∃ u : State, exec (.getOf g) (setFieldDone f v s) = .next u ∧
      u.outputs = ports (some .ok) (some (unpack g ((setFieldDone f v s).found .cfg).cfg)) none none :=
  have hready : (setFieldDone f v s).isReady := hs
  ⟨_, exec_getOf_done hready g h, rfl⟩

/-- What the next read of `CFG` finds on the reference sensor after `SET.f` (R51, R174). -/
theorem found_setFieldDone_reference (href : s.onReference) :
    ((setFieldDone f v s).found .cfg).cfg = pack f s.sensor.cfg v := by
  have hread := href.readDone .cfg
  have hdone : (setFieldDone f v s).onReference := (hread.writeDone .cfg _).setOutputs _
  rw [hdone.found, setOutputs_sensor, writeDone_sensor, hread.kind, ← Sensor.get_cfg, Sensor.get_written_reference,
    if_pos ⟨rfl, .inl rfl⟩, updatedCfg, href.found]

/-- The reference sensor keeps what a setter inserted, and every other field (R174). -/
theorem setOf_then_getOf_reference (hs : s.isReady) (href : s.onReference) :
    ∃ t u u' : State,
      exec (.setOf v f) s = .next t ∧ exec (.getOf f) t = .next u ∧ exec (.getOf g) t = .next u' ∧
      t.outputs.status = some .ok ∧
      u.outputs = ports (some .ok) (some (v &&& fieldValueMask f)) none none ∧
      (g ≠ f → u'.outputs = ports (some .ok) (some (unpack g s.sensor.cfg)) none none) := by
  have hanswer (n : Nat) : (s.eventAt n).answer = .done := by rw [href.eventAt]; rfl
  obtain ⟨u, hu, hou⟩ := exec_getOf_setFieldDone f f v hs (hanswer _)
  obtain ⟨u', hu', hou'⟩ := exec_getOf_setFieldDone f g v hs (hanswer _)
  rw [found_setFieldDone_reference f v href] at hou hou'
  refine ⟨_, u, u', exec_setOf_done f v hs (hanswer _) (hanswer _), hu, hu', rfl, ?_, fun hne => ?_⟩
  · rw [hou, unpack_pack_self]
  · rw [hou', unpack_pack_of_ne hne.symm]

/-- The state whose transaction `n` meets the event `e`, with nothing from the environment before it. -/
def State.meetingAt (s : State) (n : Nat) (e : BusEvent) : State := { s with script := scriptAt n e }

theorem State.meetingAt_eventAt_before {m n : Nat} (h : m < n) (e : BusEvent) :
    (s.meetingAt n e).eventAt m = BusEvent.quiet := by
  simp [State.eventAt, State.meetingAt, scriptAt, List.getElem?_append_left, h]

theorem State.meetingAt_eventAt_self (n : Nat) (e : BusEvent) : (s.meetingAt n e).eventAt n = e := by
  simp [State.eventAt, State.meetingAt, scriptAt]

/-- Another master writes `w` to `CFG`, and the transaction of the block completes (R54). -/
def cfgOverwritten : BusEvent := { changes := [(.cfg, w)], answer := .done }

/-- `s` where another master writes `w` to `CFG` after the two transactions of a setter. -/
abbrev overwrittenAfterSet (s : State) : State := s.meetingAt (s.pos + 2) (cfgOverwritten w)

/-- A register outside the scratch region holds, at a transaction to it, what the environment put there (R50). -/
theorem found_of_change {a : SReg} (ha : inScratchRegion a = false) (hc : s.event.changes = [(a, w)]) :
    (s.found a).get a = w := by
  rw [State.found, Sensor.arrive, Sensor.touch_of_outside ha, hc]
  exact Sensor.get_set_same _ a w

theorem found_setFieldDone_overwritten : ((setFieldDone f v (overwrittenAfterSet w s)).found .cfg).cfg = w := by
  have hevent : (setFieldDone f v (overwrittenAfterSet w s)).event = cfgOverwritten w :=
    State.meetingAt_eventAt_self (s.pos + 2) (cfgOverwritten w)
  exact found_of_change w (a := .cfg) rfl (by rw [hevent, cfgOverwritten])

/-- The oracle may show a getter any word after a setter (R50, R174). -/
theorem setOf_then_getOf_overwritten (hs : s.isReady) :
    ∃ t u : State, exec (.setOf v f) (overwrittenAfterSet w s) = .next t ∧ exec (.getOf g) t = .next u ∧
      t.outputs.status = some .ok ∧ u.outputs = ports (some .ok) (some (unpack g w)) none none := by
  have hready : (overwrittenAfterSet w s).isReady := hs
  have hread : (overwrittenAfterSet w s).eventAt s.pos = BusEvent.quiet :=
    State.meetingAt_eventAt_before (by omega) _
  have hwrite : (overwrittenAfterSet w s).eventAt (s.pos + 1) = BusEvent.quiet :=
    State.meetingAt_eventAt_before (by omega) _
  have hget : (overwrittenAfterSet w s).eventAt (s.pos + 2) = cfgOverwritten w := State.meetingAt_eventAt_self _ _
  have hset := exec_setOf_done f v hready (congrArg BusEvent.answer hread) (congrArg BusEvent.answer hwrite)
  obtain ⟨u, hu, hou⟩ := exec_getOf_setFieldDone f g v hready (congrArg BusEvent.answer hget)
  rw [found_setFieldDone_overwritten] at hou
  exact ⟨_, u, hset, hu, rfl, hou⟩

end SetThenGet

/-- Settles O29: on the reference sensor the getter finds the word the setter wrote; under the oracle another master
may write `CFG` between the two operations. -/
theorem referenceSetThenGetShowsTheField : Obligations.ReferenceSetThenGetShowsTheField :=
  ⟨fun f g v _ hs href => setOf_then_getOf_reference f g v hs href, fun f g v w s hs _ =>
    ⟨scriptAt (s.pos + 2) (cfgOverwritten w), setOf_then_getOf_overwritten f g v w hs⟩⟩

end Sys2Proof.Machine

/-!
PROOFS. The statements of `44_temperature_registers.md`: the temperature-format accessors and the identity read. Each
operation is one transaction; what a set and then a get deliver follows from what the second transaction finds and from
the way of a real to a code and back (R198).
-/

namespace Sys2Proof.Machine

/-! ### One transaction each -/

section Accessors

variable {i : Instr} {a : SReg}

/-- An operation that is `getScaled` makes one read and scales its word (R190, R192, R194, R196). -/
theorem readsInto_of_getScaled (h : ∀ s : State, exec i s = getScaled a s) :
    ReadsInto i a (fun w => okRout (raw2c w)) :=
  readsInto_of_exec fun s hs => by rw [h s, getScaled, onHandle_ready hs]

/-- An operation that is `setScaled` makes one write, of the code of its operand (R191, R193, R195). -/
theorem writesOnce_of_setScaled {x : Real32} (h : ∀ s : State, exec i s = setScaled a x s) :
    WritesOnce i a (c2raw x) :=
  writesOnce_of_exec fun s hs => by rw [h s, setScaled, onHandle_ready hs]

theorem WritesOnce.writesSomeWord {v : Word} (h : WritesOnce i a v) : WritesSomeWord i a :=
  fun s hs => ⟨v, h s hs⟩

end Accessors

/-- `GET.HIGH`, `GET.LOW` and `GET.OFFSET` read their register (R192, R194, R196). -/
theorem getTempOf_readsInto (r : TempReg) : ReadsInto (.getTempOf r) r.sreg (fun w => okRout (raw2c w)) :=
  readsInto_of_getScaled fun _ => by cases r <;> rfl

/-- `SET.HIGH`, `SET.LOW` and `SET.OFFSET` write their register (R191, R193, R195). -/
theorem setTempOf_writesOnce (r : TempReg) (x : Real32) : WritesOnce (.setTempOf x r) r.sreg (c2raw x) :=
  writesOnce_of_setScaled fun _ => by cases r <;> rfl

/-- Settles O31. -/
theorem temperatureReadsAreScaled : Obligations.TemperatureReadsAreScaled :=
  ⟨⟨readsInto_of_getScaled fun _ => rfl, rfl⟩, ⟨getTempOf_readsInto .high, rfl⟩, ⟨getTempOf_readsInto .low, rfl⟩,
    ⟨getTempOf_readsInto .offset, rfl⟩⟩

/-- Settles O32: the word is `C2RAW` of the operand in range and out of range, where it is a draw. -/
theorem temperatureWritesAreDirect : Obligations.TemperatureWritesAreDirect := fun x =>
  have hwrites (r : TempReg) : (inCodeRange x → WritesOnce (.setTempOf x r) r.sreg (c2raw x)) ∧
      WritesSomeWord (.setTempOf x r) r.sreg :=
    ⟨fun _ => setTempOf_writesOnce r x, (setTempOf_writesOnce r x).writesSomeWord⟩
  ⟨⟨(hwrites .high).1, (hwrites .high).2, rfl⟩, ⟨(hwrites .low).1, (hwrites .low).2, rfl⟩,
    ⟨(hwrites .offset).1, (hwrites .offset).2, rfl⟩⟩

/-- `GET.ID` is one read of `ID`, whose word it delivers as it is (R197). -/
theorem exec_getId {s : State} (hs : s.isReady) : exec .getId s = readAndFinish .id okOut s := by
  change execGetId s = _
  rw [execGetId, onHandle_ready hs]

/-- Settles O33. -/
theorem getIdReadsTheIdentityAgain : Obligations.GetIdReadsTheIdentityAgain :=
  ⟨readsInto_of_exec fun _ => exec_getId, rfl⟩

/-! ### Whole counts -/

/-- Truncation keeps exactly the integers (R10). -/
theorem truncQ_eq_self_iff {q : ℚ} : (truncQ q : ℚ) = q ↔ ∃ n : Int, q = (n : ℚ) := by
  constructor
  · exact fun h => ⟨truncQ q, h.symm⟩
  · rintro ⟨n, rfl⟩
    rw [truncQ_intCast]

/-- The way to a code and back keeps exactly the reals that are whole counts (R198). -/
theorem f32Val_raw2c_c2raw_eq_iff {x : Real32} (h : inCodeRange x) :
    f32Val (raw2c (c2raw x)) = f32Val x ↔ ∃ n : Int, f32Val x * 128 = (n : ℚ) := by
  rw [f32Val_raw2c_c2raw h, div_eq_iff (by norm_num), truncQ_eq_self_iff]

/-! ### A set, then a get -/

section SetThenGetTemperature

variable {s : State} (r : TempReg) (x : Real32) (w : Word)

/-- The state after a `SET.R` whose write completed (R191, R193, R195). -/
abbrev setTempDone (s : State) : State := setOutputs okNothing (writeDone r.sreg (c2raw x) s)

theorem exec_setTempOf_done (hs : s.isReady) (h : s.event.answer = .done) :
    exec (.setTempOf x r) s = .next (setTempDone r x s) :=
  (setTempOf_writesOnce r x s hs).1 h

/-- A getter after a completed setter scales the word it finds. -/
theorem exec_getTempOf_setTempDone (hs : s.isReady) (h : (s.eventAt (s.pos + 1)).answer = .done)
    (hfound : ((setTempDone r x s).found r.sreg).get r.sreg = w) :
    ∃ u : State, exec (.getTempOf r) (setTempDone r x s) = .next u ∧
      u.outputs = ports (some .ok) none none (some (raw2c w)) :=
  have hready : (setTempDone r x s).isReady := hs
  ⟨_, (getTempOf_readsInto r _ hready).1 h, by rw [hfound]; rfl⟩

/-- The reference sensor takes every write to a temperature-format register (R51). -/
theorem Sensor.takes_tempReg (y : Sensor) : y.Takes r.sreg := by
  cases r <;> simp [Sensor.Takes, TempReg.sreg]

/-- The next read of the register finds on the reference sensor the word written (R51, R198). -/
theorem found_setTempDone_reference (href : s.onReference) :
    ((setTempDone r x s).found r.sreg).get r.sreg = c2raw x := by
  have hdone : (setTempDone r x s).onReference := (href.writeDone r.sreg _).setOutputs _
  rw [hdone.found, setOutputs_sensor, writeDone_sensor, href.kind, Sensor.get_written_reference,
    if_pos ⟨rfl, Sensor.takes_tempReg r _⟩]

/-- On the reference sensor a set and then a get deliver the operand on its way to a code and back (R198). -/
theorem setTempOf_then_getTempOf_reference (hs : s.isReady) (href : s.onReference) :
    ∃ t u : State, exec (.setTempOf x r) s = .next t ∧ exec (.getTempOf r) t = .next u ∧
      t.outputs.status = some .ok ∧ u.outputs = ports (some .ok) none none (some (raw2c (c2raw x))) := by
  have hget : (s.eventAt (s.pos + 1)).answer = .done := by rw [href.eventAt]; rfl
  obtain ⟨u, hu, hout⟩ :=
    exec_getTempOf_setTempDone r x _ hs hget (found_setTempDone_reference r x href)
  exact ⟨_, u, exec_setTempOf_done r x hs href.answer, hu, rfl, hout⟩

/-- Another master writes `w` to the register, and the transaction of the block completes (R54). -/
def tempOverwritten : BusEvent := { changes := [(r.sreg, w)], answer := .done }

/-- `s` where another master writes `w` to the register after the one transaction of a setter. -/
abbrev overwrittenAfterSetTemp (s : State) : State := s.meetingAt (s.pos + 1) (tempOverwritten r w)

theorem found_setTempDone_overwritten :
    ((setTempDone r x (overwrittenAfterSetTemp r w s)).found r.sreg).get r.sreg = w := by
  have hevent : (setTempDone r x (overwrittenAfterSetTemp r w s)).event = tempOverwritten r w :=
    State.meetingAt_eventAt_self (s.pos + 1) (tempOverwritten r w)
  have houtside : inScratchRegion r.sreg = false := by cases r <;> rfl
  exact found_of_change w houtside (by rw [hevent, tempOverwritten])

/-- The oracle may show a getter any word after a setter (R50, R198). -/
theorem setTempOf_then_getTempOf_overwritten (hs : s.isReady) :
    ∃ t u : State, exec (.setTempOf x r) (overwrittenAfterSetTemp r w s) = .next t ∧
      exec (.getTempOf r) t = .next u ∧ t.outputs.status = some .ok ∧
      u.outputs = ports (some .ok) none none (some (raw2c w)) := by
  have hready : (overwrittenAfterSetTemp r w s).isReady := hs
  have hset : (overwrittenAfterSetTemp r w s).eventAt s.pos = BusEvent.quiet :=
    State.meetingAt_eventAt_before (by omega) _
  have hget : (overwrittenAfterSetTemp r w s).eventAt (s.pos + 1) = tempOverwritten r w :=
    State.meetingAt_eventAt_self _ _
  obtain ⟨u, hu, hout⟩ := exec_getTempOf_setTempDone r x w hready (congrArg BusEvent.answer hget)
    (found_setTempDone_overwritten r x w)
  exact ⟨_, u, exec_setTempOf_done r x hready (congrArg BusEvent.answer hset), hu, rfl, hout⟩

end SetThenGetTemperature

/-- Settles O34: on the reference sensor the getter delivers the way of the real to a code and back; under the oracle
another master may write the register between the two operations. -/
theorem referenceSetThenGetTemperature : Obligations.ReferenceSetThenGetTemperature := by
  refine ⟨fun r x s hs href hx => ?_, fun r x w s hs _ =>
    ⟨scriptAt (s.pos + 1) (tempOverwritten r w), setTempOf_then_getTempOf_overwritten r x w hs⟩⟩
  obtain ⟨t, u, ht, hu, hok, hout⟩ := setTempOf_then_getTempOf_reference r x hs href
  exact ⟨t, u, raw2c (c2raw x), ht, hu, hok, hout, f32Finite_raw2c _, f32Val_raw2c_c2raw hx,
    f32Val_raw2c_c2raw_eq_iff hx⟩

end Sys2Proof.Machine

/-!
PROOFS. The statements of `45_init_and_eeprom.md`: the probe of `BEGIN` and the scratch slots. `WRSCRATCH` is taken
apart into its three phases; what a run of it leaves in the sensor follows from what each phase leaves.
-/

namespace Sys2Proof.Machine

/-! ### `BEGIN` -/

/-- The legal device addresses (R25). -/
theorem legalDevAddr_iff {a : BitVec 7} :
    legalDevAddr a = true ↔ a = 0x48 ∨ a = 0x49 ∨ a = 0x4A ∨ a = 0x4B := by
  simp only [legalDevAddr, Bool.or_eq_true, beq_iff_eq, or_assoc]

/-- The accepted identities (R210). -/
theorem acceptedId_iff {w : Word} : acceptedId w = true ↔ w = Config.idA ∨ w = Config.idB := by
  simp only [acceptedId, Bool.or_eq_true, beq_iff_eq]

section Begin

variable {s t : State} {a : BitVec 7} {clk : Nat} {pins : Option Nat}

theorem exec_begin_again (hb : s.initState ≠ .uninitialized) :
    exec (.beginHandle a clk pins) s = .refused .beginAgain :=
  if_neg hb

theorem exec_begin_address (hu : s.initState = .uninitialized) (ha : legalDevAddr a = false) :
    exec (.beginHandle a clk pins) s = .refused (.beginAddress a) := by
  change execBeginHandle a clk pins s = _
  rw [execBeginHandle, if_pos hu, ha, if_neg Bool.false_ne_true]

section Probe

variable (hu : s.initState = .uninitialized) (ha : legalDevAddr a = true)

include hu ha

theorem exec_begin_accepted (h : s.event.answer = .done) (hid : acceptedId (s.found .id).id = true) :
    exec (.beginHandle a clk pins) s =
      .next (setOutputs okNothing (setInit .ready (readDone .id (beginProbe a clk pins s)))) := by
  change execBeginHandle a clk pins s = _
  rw [execBeginHandle, if_pos hu, if_pos ha, memRead_done (s := beginProbe a clk pins s) h]
  exact if_pos hid

theorem exec_begin_mismatch (h : s.event.answer = .done) (hid : ¬acceptedId (s.found .id).id = true) :
    exec (.beginHandle a clk pins) s =
      .next (raised .identityMismatch (setInit .failed (readDone .id (beginProbe a clk pins s)))) := by
  change execBeginHandle a clk pins s = _
  rw [execBeginHandle, if_pos hu, if_pos ha, memRead_done (s := beginProbe a clk pins s) h]
  exact if_neg hid

theorem exec_begin_failed (h : s.event.answer = .failed) :
    exec (.beginHandle a clk pins) s =
      .next (raised .transportError (setInit .failed (readFailed .id (beginProbe a clk pins s)))) := by
  change execBeginHandle a clk pins s = _
  rw [execBeginHandle, if_pos hu, if_pos ha, memRead_failed (s := beginProbe a clk pins s) h]
  exact raise_eq _ _

end Probe

/-- The calls of a probe that completed: `configure`, then the read of `ID` (R210). -/
theorem readDone_beginProbe_trace (v : InitState) :
    (setInit v (readDone .id (beginProbe a clk pins s))).trace =
      s.trace ++ [.configure Config.busRef clk pins, .writeThenRead Config.busRef a [0x0F] 2
        (some [hiByte (s.found .id).id, loByte (s.found .id).id])] := by
  rw [setInit_trace, readDone_trace, beginProbe_trace, List.append_assoc]
  rfl

/-- The calls of a probe that failed (R210). -/
theorem readFailed_beginProbe_trace (v : InitState) :
    (setInit v (readFailed .id (beginProbe a clk pins s))).trace =
      s.trace ++ [.configure Config.busRef clk pins, .writeThenRead Config.busRef a [0x0F] 2 none] := by
  rw [setInit_trace, readFailed_trace, beginProbe_trace, List.append_assoc]
  rfl

/-- What `BEGIN` makes of the handle, with the `STATUS` it reports (R210, R211). -/
theorem exec_begin_next (h : exec (.beginHandle a clk pins) s = .next t) :
    s.initState = .uninitialized ∧
      ((t.initState = .ready ∧ t.outputs.status = some .ok) ∨
        (t.initState = .failed ∧
          (t.outputs.status = some .identityMismatch ∨ t.outputs.status = some .transportError))) := by
  change execBeginHandle a clk pins s = _ at h
  rcases execBeginHandle_cases s a clk pins with
    ⟨_, e⟩ | ⟨_, _, e⟩ | ⟨hu, _, ⟨_, e⟩ | ⟨_, e⟩ | ⟨_, _, e⟩ | ⟨_, _, e⟩⟩ <;> rw [e] at h <;> cases h
  · exact ⟨hu, .inr ⟨rfl, .inr rfl⟩⟩
  · exact ⟨hu, .inl ⟨rfl, rfl⟩⟩
  · exact ⟨hu, .inr ⟨rfl, .inl rfl⟩⟩

end Begin

/-- Settles O35: the token is `Config.busRef`. -/
theorem beginProbesOnceAndDecides : Obligations.BeginProbesOnceAndDecides := by
  refine ⟨Config.busRef, fun a clk pins s => ⟨exec_begin_again, ?_, ?_, rfl⟩⟩
  · intro hu h8 h9 hA hB
    refine exec_begin_address hu (Bool.eq_false_iff.mpr ?_)
    simp only [ne_eq, legalDevAddr_iff, h8, h9, hA, hB, or_self, not_false_eq_true]
  · intro hu hlegal
    have ha := legalDevAddr_iff.mpr hlegal
    refine ⟨fun h hid => ?_, fun h hidA hidB => ⟨failedWith .identityMismatch s.draws, rfl, ?_⟩,
      fun h => ⟨failedWith .transportError s.draws, rfl, ?_⟩⟩
    · rw [exec_begin_accepted hu ha h (acceptedId_iff.mpr hid), setOutputs, readDone_beginProbe_trace]
      rfl
    · have hid := mt acceptedId_iff.mp (not_or.mpr ⟨hidA, hidB⟩)
      rw [exec_begin_mismatch hu ha h hid, raised, readDone_beginProbe_trace]
      rfl
    · rw [exec_begin_failed hu ha h, raised, readFailed_beginProbe_trace]
      rfl

theorem eq_beginHandle_of_isBegin {i : Instr} (h : i.isBegin = true) :
    ∃ a clk pins, i = .beginHandle a clk pins := by
  cases i with
  | beginHandle a clk pins => exact ⟨a, clk, pins, rfl⟩
  | _ => cases h

/-- Settles O36: `BEGIN` decides, and every other operation keeps the handle. -/
theorem initStateMovesOnlyByBegin : Obligations.InitStateMovesOnlyByBegin := by
  intro i s t h
  cases hi : i.isBegin with
  | false =>
    obtain ⟨hinit, -, -⟩ := (exec_next_shape h).handle_kept hi
    exact ⟨fun _ => hinit, fun hu => .inl ⟨rfl, hinit.trans hu⟩⟩
  | true =>
    obtain ⟨a, clk, pins, rfl⟩ := eq_beginHandle_of_isBegin hi
    obtain ⟨hu, hdecided⟩ := exec_begin_next h
    exact ⟨fun hb => absurd hu hb, fun _ => .inr ⟨rfl, hdecided⟩⟩

/-! ### The phases of `WRSCRATCH` -/

section Phases

variable {s t : State} {slot : SReg} {v : Word}

section Reply

variable {r : Reply Unit} {answer : Answer} {done failed : State}

/-- A phase completes exactly when its transaction does. -/
theorem Reply.done_iff (h : (answer = .never ∧ r = .hung) ∨ (answer = .failed ∧ r = .failed failed) ∨
    (answer = .done ∧ r = .done () done)) : r = .done () t ↔ answer = .done ∧ t = done := by
  rcases h with ⟨rfl, rfl⟩ | ⟨rfl, rfl⟩ | ⟨rfl, rfl⟩ <;> simp [eq_comm]

/-- A phase fails exactly when its transaction does. -/
theorem Reply.failed_iff (h : (answer = .never ∧ r = .hung) ∨ (answer = .failed ∧ r = .failed failed) ∨
    (answer = .done ∧ r = .done () done)) : r = .failed t ↔ answer = .failed ∧ t = failed := by
  rcases h with ⟨rfl, rfl⟩ | ⟨rfl, rfl⟩ | ⟨rfl, rfl⟩ <;> simp [eq_comm]

end Reply

theorem unlockPhase_done_iff : unlockPhase s = .done () t ↔ s.event.answer = .done ∧ t = unlockDone s :=
  Reply.done_iff (unlockPhase_cases s)

theorem unlockPhase_failed_iff : unlockPhase s = .failed t ↔
    s.event.answer = .failed ∧ t = writeFailed .unlock unlockSentinel (setSeq .unlocking s) :=
  Reply.failed_iff (unlockPhase_cases s)

theorem programPhase_done_iff :
    programPhase slot v s = .done () t ↔ s.event.answer = .done ∧ t = programDone s slot v :=
  Reply.done_iff (programPhase_cases s slot v)

theorem programPhase_failed_iff : programPhase slot v s = .failed t ↔
    s.event.answer = .failed ∧ t = writeFailed slot v (setSeq .writing s) :=
  Reply.failed_iff (programPhase_cases s slot v)

theorem lockPhase_done_iff : lockPhase s = .done () t ↔ s.event.answer = .done ∧ t = lockDone s :=
  Reply.done_iff (lockPhase_cases s)

theorem lockPhase_failed_iff : lockPhase s = .failed t ↔
    s.event.answer = .failed ∧ t = writeFailed .unlock lockSentinel (setSeq .locking s) :=
  Reply.failed_iff (lockPhase_cases s)

/-- The calls of a completed unlock phase (R212). -/
theorem unlockDone_trace (s : State) : (unlockDone s).trace =
    s.trace ++ [.write s.busRef s.devAddr (writeFrame .unlock unlockSentinel) true, .wait tSettle] := by
  simp [writeFrame]

/-- The calls of a completed programming phase (R212). -/
theorem programDone_trace (s : State) (slot : SReg) (v : Word) : (programDone s slot v).trace =
    s.trace ++ [.write s.busRef s.devAddr (writeFrame slot v) true, .wait tProgram] := by
  simp [writeFrame]

end Phases

/-- Settles O40. -/
theorem sequencerPhasesMoveAsListed : Obligations.SequencerPhasesMoveAsListed := by
  intro slot v s t
  refine ⟨fun h => ?_, fun h => ?_, fun h => ?_, fun h => ?_, fun h => ?_, fun h => ?_⟩
  · obtain ⟨-, rfl⟩ := unlockPhase_done_iff.mp h
    exact ⟨rfl, unlockDone_trace s⟩
  · obtain ⟨-, rfl⟩ := unlockPhase_failed_iff.mp h
    exact ⟨rfl, rfl⟩
  · obtain ⟨-, rfl⟩ := programPhase_done_iff.mp h
    exact ⟨rfl, programDone_trace s slot v⟩
  · obtain ⟨-, rfl⟩ := programPhase_failed_iff.mp h
    exact ⟨rfl, rfl⟩
  · obtain ⟨-, rfl⟩ := lockPhase_done_iff.mp h
    exact ⟨rfl, rfl⟩
  · obtain ⟨-, rfl⟩ := lockPhase_failed_iff.mp h
    exact ⟨rfl, rfl⟩

/-! ### The slots -/

/-- The addresses of the three slots (R215). -/
theorem slotAt_eq_none_iff {b : Byte} : slotAt b = none ↔ b ≠ 0x05 ∧ b ≠ 0x06 ∧ b ≠ 0x08 := by
  have hnone : slotAt b = none ↔ ∀ a, ¬((a = .scr1 ∨ a = .scr2 ∨ a = .scr3) ∧ regAddr a = b) := by
    simp only [Option.eq_none_iff_forall_ne_some, ne_eq, slotAt_eq_some, regAt_eq_some_iff, isSlot_iff, and_comm]
  rw [hnone]
  simp [or_imp, forall_and, regAddr, eq_comm]

section Slots

variable {s t : State} {addr : Byte} {slot : SReg} (v : Word)

theorem slotAt_regAddr (hslot : isSlot slot = true) : slotAt (regAddr slot) = some slot :=
  slotAt_eq_some.mpr ⟨regAt_regAddr slot, hslot⟩

/-- `WRSCRATCH` of an address that is no slot does nothing but raise `InvalidRegister` (R215). -/
theorem exec_wrscratch_invalid (hs : s.isReady) (ha : slotAt addr = none) :
    exec (.wrscratch addr v) s = .next (raised .invalidRegister s) := by
  change execWrscratch addr v s = _
  rw [execWrscratch, onHandle_ready hs, ha]
  exact raise_eq _ _

/-- `RDSCRATCH` of an address that is no slot does nothing but raise `InvalidRegister` (R213, R215). -/
theorem exec_rdscratch_invalid (hs : s.isReady) (ha : slotAt addr = none) :
    exec (.rdscratch addr) s = .next (raised .invalidRegister s) := by
  change execRdscratch addr s = _
  rw [execRdscratch, onHandle_ready hs, ha]
  exact raise_eq _ _

/-- `RDSCRATCH` of a slot is one read of it (R213). -/
theorem exec_rdscratch (hs : s.isReady) (ha : slotAt addr = some slot) :
    exec (.rdscratch addr) s = readAndFinish slot okOut s := by
  change execRdscratch addr s = _
  rw [execRdscratch, onHandle_ready hs, ha]

/-- `WRSCRATCH` of a slot is its three phases (R212). -/
theorem exec_wrscratch (hs : s.isReady) (ha : slotAt addr = some slot) :
    exec (.wrscratch addr v) s = (unlockPhase s).orRaise fun _ s1 => (programPhase slot v s1).orRaise fun _ s2 =>
      (lockPhase s2).orRaise fun _ s3 => finish okNothing s3 := by
  change execWrscratch addr v s = _
  rw [execWrscratch, onHandle_ready hs, ha]

/-- The state after a `WRSCRATCH` whose three transactions completed (R212). -/
abbrev scratchDone (slot : SReg) (v : Word) (s : State) : State :=
  setOutputs okNothing (lockDone (programDone (unlockDone s) slot v))

/-- What a transaction finds does not depend on the sequencer. -/
@[simp] theorem setSeq_found (q : SeqState) (s : State) (a : SReg) : (setSeq q s).found a = s.found a := rfl

/-- The data write meets the environment's next act. -/
theorem unlockDone_event (s : State) : (unlockDone s).event = s.eventAt (s.pos + 1) := by
  simp [event_eq]

/-- The lock write meets the environment's next act but one. -/
theorem programDone_unlockDone_event (s : State) (slot : SReg) :
    (programDone (unlockDone s) slot v).event = s.eventAt (s.pos + 2) := by
  simp [event_eq]

/-- What the transaction after the unlock phase finds. -/
theorem unlockDone_found (s : State) (a : SReg) : (unlockDone s).found a =
    (((s.found .unlock).written s.kind s.pos .unlock unlockSentinel).elapse tSettle).arrive
      s.kind (s.pos + 1) (s.eventAt (s.pos + 1)) a := by
  simp [State.found, event_eq]

/-- What the transaction after the programming phase finds. -/
theorem programDone_unlockDone_found (s : State) (slot a : SReg) :
    (programDone (unlockDone s) slot v).found a =
      ((((unlockDone s).found slot).written s.kind (s.pos + 1) slot v).elapse tProgram).arrive
        s.kind (s.pos + 2) (s.eventAt (s.pos + 2)) a := by
  simp [State.found, event_eq]

/-- A complete run keeps the handle (R24). -/
theorem scratchDone_initState (s : State) (slot : SReg) : (scratchDone slot v s).initState = s.initState := by
  simp

/-- The whole state after a complete run (R212). -/
theorem scratchDone_eq (s : State) (slot : SReg) : scratchDone slot v s = { s with
    outputs := okNothing
    seqState := .locked
    sensor := ((programDone (unlockDone s) slot v).found .unlock).written s.kind (s.pos + 2) .unlock lockSentinel
    pos := s.pos + 3
    trace := s.trace ++ [.write s.busRef s.devAddr (writeFrame .unlock unlockSentinel) true, .wait tSettle,
      .write s.busRef s.devAddr (writeFrame slot v) true, .wait tProgram,
      .write s.busRef s.devAddr (writeFrame .unlock lockSentinel) true] } := by
  rw [scratchDone, setOutputs]
  simp [writeFrame]

/-- The whole state after a run whose data write failed (R212, R214). -/
theorem dataFailed_eq (s : State) (slot : SReg) :
    raised .transportError (writeFailed slot v (setSeq .writing (unlockDone s))) = { s with
      outputs := failedWith .transportError s.draws
      draws := s.draws + 1
      seqState := .writing
      sensor := ((unlockDone s).found slot).writeFailed s.kind (s.pos + 1) slot v
      pos := s.pos + 2
      trace := s.trace ++ [.write s.busRef s.devAddr (writeFrame .unlock unlockSentinel) true, .wait tSettle,
        .write s.busRef s.devAddr (writeFrame slot v) false] } := by
  rw [raised]
  simp [writeFrame]

/-- The whole state after a run whose lock write failed (R212, R214). -/
theorem lockFailed_eq (s : State) (slot : SReg) :
    raised .transportError
        (writeFailed .unlock lockSentinel (setSeq .locking (programDone (unlockDone s) slot v))) = { s with
      outputs := failedWith .transportError s.draws
      draws := s.draws + 1
      seqState := .locking
      sensor :=
        ((programDone (unlockDone s) slot v).found .unlock).writeFailed s.kind (s.pos + 2) .unlock lockSentinel
      pos := s.pos + 3
      trace := s.trace ++ [.write s.busRef s.devAddr (writeFrame .unlock unlockSentinel) true, .wait tSettle,
        .write s.busRef s.devAddr (writeFrame slot v) true, .wait tProgram,
        .write s.busRef s.devAddr (writeFrame .unlock lockSentinel) false] } := by
  rw [raised]
  simp [writeFrame]

section Run

variable (hs : s.isReady) (ha : slotAt addr = some slot)

include hs ha

theorem exec_wrscratch_unlockFailed (h : s.event.answer = .failed) :
    exec (.wrscratch addr v) s =
      .next (raised .transportError (writeFailed .unlock unlockSentinel (setSeq .unlocking s))) := by
  rw [exec_wrscratch v hs ha, unlockPhase_failed_iff.mpr ⟨h, rfl⟩, orRaise_failed, raise_eq]

/-- After a completed unlock phase, `WRSCRATCH` is the two phases left. -/
theorem exec_wrscratch_unlocked (h : s.event.answer = .done) :
    exec (.wrscratch addr v) s = (programPhase slot v (unlockDone s)).orRaise fun _ s2 =>
      (lockPhase s2).orRaise fun _ s3 => finish okNothing s3 := by
  rw [exec_wrscratch v hs ha, unlockPhase_done_iff.mpr ⟨h, rfl⟩, orRaise_done]

theorem exec_wrscratch_programFailed (h : s.event.answer = .done)
    (h' : (s.eventAt (s.pos + 1)).answer = .failed) :
    exec (.wrscratch addr v) s =
      .next (raised .transportError (writeFailed slot v (setSeq .writing (unlockDone s)))) := by
  have hdata : (unlockDone s).event.answer = .failed := by rw [unlockDone_event, h']
  rw [exec_wrscratch_unlocked v hs ha h, programPhase_failed_iff.mpr ⟨hdata, rfl⟩, orRaise_failed, raise_eq]

/-- After a completed programming phase, `WRSCRATCH` is the lock phase. -/
theorem exec_wrscratch_programmed (h : s.event.answer = .done) (h' : (s.eventAt (s.pos + 1)).answer = .done) :
    exec (.wrscratch addr v) s =
      (lockPhase (programDone (unlockDone s) slot v)).orRaise fun _ s3 => finish okNothing s3 := by
  have hdata : (unlockDone s).event.answer = .done := by rw [unlockDone_event, h']
  rw [exec_wrscratch_unlocked v hs ha h, programPhase_done_iff.mpr ⟨hdata, rfl⟩, orRaise_done]

theorem exec_wrscratch_lockFailed (h : s.event.answer = .done) (h' : (s.eventAt (s.pos + 1)).answer = .done)
    (h'' : (s.eventAt (s.pos + 2)).answer = .failed) :
    exec (.wrscratch addr v) s = .next (raised .transportError
      (writeFailed .unlock lockSentinel (setSeq .locking (programDone (unlockDone s) slot v)))) := by
  have hlock : (programDone (unlockDone s) slot v).event.answer = .failed := by
    rw [programDone_unlockDone_event, h'']
  rw [exec_wrscratch_programmed v hs ha h h', lockPhase_failed_iff.mpr ⟨hlock, rfl⟩, orRaise_failed, raise_eq]

theorem exec_wrscratch_done (h : s.completes 3) :
    exec (.wrscratch addr v) s = .next (scratchDone slot v s) := by
  have hlock : (programDone (unlockDone s) slot v).event.answer = .done := by
    rw [programDone_unlockDone_event, h 2 (by omega)]
  rw [exec_wrscratch_programmed v hs ha (h 0 (by omega)) (h 1 (by omega)), lockPhase_done_iff.mpr ⟨hlock, rfl⟩,
    orRaise_done, finish_eq]

end Run

end Slots

/-- Settles O37: each run ends in the state its lemma gives, with what the later writes found written out. -/
theorem wrscratchRunsItsSteps : Obligations.WrscratchRunsItsSteps := by
  refine ⟨fun _ _ => rfl, fun addr v s hs h5 h6 h8 =>
    ⟨_, rfl, exec_wrscratch_invalid v hs (slotAt_eq_none_iff.mpr ⟨h5, h6, h8⟩)⟩, ?_⟩
  intro slot v s hs hslot x1 y1 x2 y2
  have ha := slotAt_regAddr (isSlot_iff.mpr hslot)
  have hy1 : (unlockDone s).found slot = y1 := unlockDone_found s slot
  have hy2 : (programDone (unlockDone s) slot v).found .unlock = y2 := by
    rw [programDone_unlockDone_found, hy1]
    rfl
  refine ⟨fun h => ?_, fun h => ⟨_, rfl, exec_wrscratch_unlockFailed v hs ha h⟩,
    fun h h' => ⟨failedWith .transportError s.draws, rfl, ?_⟩,
    fun h h' h'' => ⟨failedWith .transportError s.draws, rfl, ?_⟩⟩
  · rw [exec_wrscratch_done v hs ha h, scratchDone_eq, hy2]
    rfl
  · rw [exec_wrscratch_programFailed v hs ha h h', dataFailed_eq, hy1]
    rfl
  · rw [exec_wrscratch_lockFailed v hs ha h h' h'', lockFailed_eq, hy2]
    rfl

/-- Settles O39. -/
theorem rdscratchIsAPlainRead : Obligations.RdscratchIsAPlainRead :=
  ⟨fun _ hslot => readsInto_of_exec fun _ hs => exec_rdscratch hs (slotAt_regAddr (isSlot_iff.mpr hslot)),
    fun _ _ hs h5 h6 h8 => ⟨_, rfl, exec_rdscratch_invalid hs (slotAt_eq_none_iff.mpr ⟨h5, h6, h8⟩)⟩, fun _ => rfl⟩

section SlotStatus

variable {s t : State} {addr : Byte} {slot : SReg} {v : Word}

/-- `RDSCRATCH` of a slot does not report `InvalidRegister` (R215). -/
theorem rdscratch_status_of_slot (hs : s.isReady) (ha : slotAt addr = some slot)
    (h : exec (.rdscratch addr) s = .next t) : t.outputs.status ≠ some .invalidRegister := by
  rw [exec_rdscratch hs ha] at h
  rcases readAndFinish_cases s slot okOut with ⟨_, e⟩ | ⟨_, e⟩ | ⟨_, e⟩ <;> rw [e] at h <;> cases h
  · simp [failedWith]
  · simp [okOut, okNothing]

/-- A `WRSCRATCH` of a slot that answers a next state ran whole or reports `TransportError` (R212, R214). -/
theorem wrscratch_next_of_slot (hs : s.isReady) (ha : slotAt addr = some slot)
    (h : exec (.wrscratch addr v) s = .next t) :
    t = scratchDone slot v s ∨ t.outputs.status = some .transportError := by
  change execWrscratch addr v s = _ at h
  rcases execWrscratch_cases s (by simp [hs]) ha v with
    ⟨_, e⟩ | ⟨_, e⟩ | ⟨_, _, e⟩ | ⟨_, _, _, e⟩ | ⟨_, _, _, e⟩ <;> rw [e] at h <;> cases h
  · exact .inr rfl
  · exact .inr rfl
  · exact .inr rfl
  · exact .inl rfl

/-- `WRSCRATCH` of a slot does not report `InvalidRegister` (R215). -/
theorem wrscratch_status_of_slot (hs : s.isReady) (ha : slotAt addr = some slot)
    (h : exec (.wrscratch addr v) s = .next t) : t.outputs.status ≠ some .invalidRegister := by
  rcases wrscratch_next_of_slot hs ha h with rfl | hfailed
  · simp [okNothing]
  · simp [hfailed]

/-- `RDSCRATCH` and `WRSCRATCH` report `InvalidRegister` exactly where there is no slot (R215). -/
theorem invalidRegister_iff {i : Instr} (hs : s.isReady) (hi : i = .rdscratch addr ∨ ∃ v, i = .wrscratch addr v)
    (h : exec i s = .next t) : t.outputs.status = some .invalidRegister ↔ slotAt addr = none := by
  cases ha : slotAt addr with
  | none =>
    have hraised : exec i s = .next (raised .invalidRegister s) := by
      rcases hi with rfl | ⟨v, rfl⟩
      · exact exec_rdscratch_invalid hs ha
      · exact exec_wrscratch_invalid v hs ha
    cases hraised.symm.trans h
    simp [failedWith]
  | some slot =>
    have hvalid : t.outputs.status ≠ some .invalidRegister := by
      rcases hi with rfl | ⟨v, rfl⟩
      · exact rdscratch_status_of_slot hs ha h
      · exact wrscratch_status_of_slot hs ha h
    simp [hvalid]

end SlotStatus

/-- Settles O38. -/
theorem invalidSlotMakesNoBusTraffic : Obligations.InvalidSlotMakesNoBusTraffic := by
  refine ⟨fun addr v s hs h5 h6 h8 => ?_, fun i addr s t hs hi h =>
    (invalidRegister_iff hs hi h).trans slotAt_eq_none_iff⟩
  have ha := slotAt_eq_none_iff.mpr ⟨h5, h6, h8⟩
  exact ⟨⟨_, rfl, exec_wrscratch_invalid v hs ha⟩, _, rfl, exec_rdscratch_invalid hs ha⟩

/-! ### What the phases leave in the sensor -/

section Writes

variable {k : SensorKind} {n : Nat} {a : SReg} {v : Word} {x : Sensor}

/-- A completed write of `UNLOCK`, to either sensor (R34, R49, R51, R275). -/
theorem Sensor.written_unlock (x : Sensor) (k : SensorKind) (n : Nat) (v : Word) :
    x.written k n .unlock v = { x with unlock := v, settle := if v.getLsbD 15 then tSettle else 0 } := by
  cases k <;> rfl

theorem Sensor.get_written_unlock (x : Sensor) (k : SensorKind) (n : Nat) (v : Word) (b : SReg) :
    (x.written k n .unlock v).get b = if b = .unlock then v else x.get b := by
  rw [Sensor.written_unlock]
  cases b <;> rfl

/-- The sensor takes a slot write: it is unlocked, and the oracle is also settled and programs no slot (R35, R51, R278;
log 11, log 34). -/
def Sensor.TakesSlotWrite (k : SensorKind) (x : Sensor) : Prop :=
  x.isUnlocked = true ∧ (k = .oracle → x.settle = 0 ∧ x.prog = none)

/-- A slot write that the sensor takes sets the slot and no other register (R35, R51, R278). -/
theorem Sensor.get_written_slot (ha : isSlot a = true) (h : x.TakesSlotWrite k) (b : SReg) :
    (x.written k n a v).get b = if b = a then v else x.get b := by
  obtain ⟨hu, hgate⟩ := h
  cases k with
  | reference =>
    have htakes : x.Takes a := .inr (.inr (.inr (.inr (.inr ⟨isSlot_iff.mp ha, hu⟩))))
    rw [Sensor.written, Sensor.get_mark, Sensor.store_reference_of_takes htakes, Sensor.get_set]
  | oracle =>
    obtain ⟨hsettle, hprog⟩ := hgate rfl
    rw [Sensor.get_written_oracle x (.inr (.inr (.inr (.inr (.inr ⟨ha, hu, hsettle, hprog⟩))))), Sensor.get_set]

end Writes

section Phases

variable {s : State} {slot : SReg} (v : Word)

/-- The unlock phase leaves the unlock sentinel in `UNLOCK` and changes no other register. -/
theorem unlockDone_get (s : State) (b : SReg) :
    (unlockDone s).sensor.get b = if b = .unlock then unlockSentinel else (s.found .unlock).get b := by
  simp [Sensor.get_written_unlock]

/-- The wait of the unlock phase is the settle time (R275). -/
theorem unlockDone_settle (s : State) : (unlockDone s).sensor.settle = 0 := by
  simp [Sensor.written_unlock, Sensor.elapse, unlockSentinel]

/-- The unlock phase leaves the sensor unlocked (R34). -/
theorem unlockDone_isUnlocked (s : State) : (unlockDone s).sensor.isUnlocked = true := by
  rw [Sensor.isUnlocked, ← Sensor.get_unlock, unlockDone_get, if_pos rfl]
  rfl

/-- The unlock phase opens no programming window. -/
theorem unlockDone_prog (h : s.sensor.prog = none) : (unlockDone s).sensor.prog = none := by
  simp [Sensor.written_unlock, Sensor.elapse, State.found_of_no_window h, h]

/-- The wait of the programming phase closes the window that its write opens (R39, R274). -/
theorem programDone_prog (hslot : isSlot slot = true) (s : State) : (programDone s slot v).sensor.prog = none := by
  simp [Sensor.elapse_prog (Sensor.written_slot_prog hslot)]

/-- The programming phase puts the value into the slot, where the sensor takes it, and changes no other register. -/
theorem programDone_get (hslot : isSlot slot = true) (h : (s.found slot).TakesSlotWrite s.kind) (b : SReg) :
    (programDone s slot v).sensor.get b = if b = slot then v else (s.found slot).get b := by
  simp [Sensor.get_written_slot hslot h]

/-- The lock phase leaves the lock sentinel in `UNLOCK` and changes no other register. -/
theorem lockDone_get (s : State) (b : SReg) :
    (lockDone s).sensor.get b = if b = .unlock then lockSentinel else (s.found .unlock).get b := by
  simp [Sensor.get_written_unlock]

/-- The lock phase owes no settle time (R275). -/
theorem lockDone_settle (s : State) : (lockDone s).sensor.settle = 0 := by
  simp [Sensor.written_unlock, lockSentinel]

/-- The lock phase opens no programming window. -/
theorem lockDone_prog (h : s.sensor.prog = none) : (lockDone s).sensor.prog = none := by
  simp [Sensor.written_unlock, State.found_of_no_window h, h]

end Phases

section Completed

variable {s : State} {slot : SReg} (v : Word)

/-- A complete run leaves the sensor locked, settled and outside its programming window (R214, R274, R275). -/
theorem scratchDone_locked (hslot : isSlot slot = true) (s : State) :
    (scratchDone slot v s).seqState = .locked ∧ (scratchDone slot v s).sensor.unlock = 0x0000 ∧
      (scratchDone slot v s).sensor.settle = 0 ∧ (scratchDone slot v s).sensor.prog = none :=
  ⟨rfl, lockDone_get _ .unlock, lockDone_settle _, lockDone_prog (programDone_prog v hslot _)⟩

/-- A complete run puts the value into the slot, where no window was open before and nobody else changes the sensor at
the data and the lock write (R35, R278). -/
theorem scratchDone_get_slot (hslot : isSlot slot = true) (hp : s.sensor.prog = none)
    (hdata : (s.eventAt (s.pos + 1)).changes = []) (hlock : (s.eventAt (s.pos + 2)).changes = []) :
    (scratchDone slot v s).sensor.get slot = v := by
  have hne : slot ≠ .unlock := by rintro rfl; cases hslot
  have hprog := unlockDone_prog hp
  have hfound : (unlockDone s).found slot = (unlockDone s).sensor :=
    State.found_of_no_changes (by rw [unlockDone_event, hdata]) (.inl hprog)
  have htakes : ((unlockDone s).found slot).TakesSlotWrite (unlockDone s).kind := by
    rw [hfound]
    exact ⟨unlockDone_isUnlocked s, fun _ => ⟨unlockDone_settle s, hprog⟩⟩
  have hfound' : (programDone (unlockDone s) slot v).found .unlock = (programDone (unlockDone s) slot v).sensor :=
    State.found_of_no_changes (by rw [programDone_unlockDone_event, hlock]) (.inl (programDone_prog v hslot _))
  rw [setOutputs_sensor, lockDone_get, if_neg hne, hfound', programDone_get v hslot htakes, if_pos rfl]

/-- A complete run on the reference sensor sets the slot and locks; it changes no other register (R51). -/
theorem scratchDone_get_reference (hslot : isSlot slot = true) (href : s.onReference) (b : SReg) :
    (scratchDone slot v s).sensor.get b =
      if b = .unlock then lockSentinel else if b = slot then v else s.sensor.get b := by
  have hunlocked := href.unlockDone
  have htakes : ((unlockDone s).found slot).TakesSlotWrite (unlockDone s).kind := by
    rw [hunlocked.found, hunlocked.kind]
    exact ⟨unlockDone_isUnlocked s, nofun⟩
  rw [setOutputs_sensor, lockDone_get, (hunlocked.programDone slot v).found, programDone_get v hslot htakes,
    hunlocked.found, unlockDone_get, href.found]
  split <;> rfl

/-- `RDSCRATCH` on the reference sensor delivers the slot and changes nothing of the sensor (R51, R213). -/
theorem exec_rdscratch_reference {addr : Byte} (hs : s.isReady) (href : s.onReference)
    (ha : slotAt addr = some slot) : ∃ u : State, exec (.rdscratch addr) s = .next u ∧
      u.outputs = ports (some .ok) (some (s.sensor.get slot)) none none ∧ u.sensor = s.sensor :=
  ⟨_, (exec_rdscratch hs ha).trans (readAndFinish_done href.answer), by rw [href.found]; rfl, href.found slot⟩

end Completed

/-- Settles O41: `OK` is the status of a complete run alone. -/
theorem completeWrscratchLeavesTheSensorLocked : Obligations.CompleteWrscratchLeavesTheSensorLocked := by
  refine ⟨fun addr v s t hs h hok => ?_, fun slot v s hs hslot h hp hdata hlock => ?_⟩
  · cases ha : slotAt addr with
    | none =>
      have hinvalid := (invalidRegister_iff hs (.inr ⟨v, rfl⟩) h).mpr ha
      cases hok.symm.trans hinvalid
    | some slot =>
      obtain ⟨-, hslot⟩ := slotAt_eq_some.mp ha
      rcases wrscratch_next_of_slot hs ha h with rfl | hfailed
      · exact scratchDone_locked v hslot s
      · cases hok.symm.trans hfailed
  · have hslot := isSlot_iff.mpr hslot
    exact ⟨_, exec_wrscratch_done v hs (slotAt_regAddr hslot) h, rfl, scratchDone_get_slot v hslot hp hdata hlock⟩

/-- Settles O42: the read finds what the complete run left. -/
theorem referenceScratchReadsBack : Obligations.ReferenceScratchReadsBack := by
  intro slot v s hs href hslot
  replace hslot := isSlot_iff.mpr hslot
  have ha := slotAt_regAddr hslot
  have hne : slot ≠ .unlock := by rintro rfl; cases hslot
  have hready : (scratchDone slot v s).isReady := (scratchDone_initState v s slot).trans hs
  have hcompletes : s.completes 3 := fun j _ => by rw [href.eventAt]; rfl
  have hdone : (scratchDone slot v s).onReference := (href.unlockDone.programDone slot v).lockDone.setOutputs _
  have hget := scratchDone_get_reference v hslot href
  obtain ⟨u, hread, hout, hsensor⟩ := exec_rdscratch_reference hready hdone ha
  refine ⟨scratchDone slot v s, u, exec_wrscratch_done v hs ha hcompletes, hread, rfl, ?_, ?_, fun b hb hb' => ?_⟩
  · rw [hout, hget, if_neg hne, if_pos rfl]
  · rw [hsensor, ← Sensor.get_unlock, hget, if_pos rfl]
    rfl
  · rw [hsensor, hget, if_neg hb', if_neg hb]

end Sys2Proof.Machine

/-!
PROOFS. The statements of `60_exceptions.md`: who is refused, what a `Failed` handle runs, and who reports which
`STATUS`. A Layer 1 operation other than `BEGIN` is its steps behind the check for a bound handle, and no step looks at
which bound state `INIT_STATE` is in; the errors are read off the shapes of the next states.
-/

namespace Sys2Proof.Machine

/-! ### Steps that do not look at `INIT_STATE` -/

/-- The result with its next state changed by `f`; a refusal or a fault stays as it is. -/
def mapNext (f : State → State) : Result → Result
  | .next t => .next (f t)
  | .fault e => .fault e
  | .refused e => .refused e

/-- The reply with the state it leaves changed by `f`. -/
def Reply.mapState {α : Type} (f : State → State) : Reply α → Reply α
  | .done v t => .done v (f t)
  | .failed t => .failed (f t)
  | .hung => .hung

/-- The steps `k` neither read nor write `INIT_STATE`: with any value in it they come to the same. -/
def IgnoresInit (k : State → Result) : Prop := ∀ v s, k (setInit v s) = mapNext (setInit v) (k s)

/-- The transactions `r` neither read nor write `INIT_STATE`. -/
def ReplyIgnoresInit {α : Type} (r : State → Reply α) : Prop :=
  ∀ v s, r (setInit v s) = (r s).mapState (setInit v)

section Steps

variable {α : Type} {r : State → Reply α}

theorem finish_ignoresInit (o : Outputs) : IgnoresInit (finish o) := fun _ _ => rfl

theorem raise_ignoresInit (e : Status) : IgnoresInit (raise e) := fun _ _ => rfl

theorem refused_ignoresInit (e : Refusal) : IgnoresInit fun _ => .refused e := fun _ _ => rfl

theorem memRead_ignoresInit (a : SReg) : ReplyIgnoresInit (memRead a) := by
  intro v s
  rcases memRead_cases a s with ⟨h, e⟩ | ⟨h, e⟩ | ⟨h, e⟩ <;> rw [e]
  · exact memRead_never h
  · exact memRead_failed h
  · exact memRead_done h

theorem memWrite_ignoresInit (a : SReg) (w : Word) : ReplyIgnoresInit (memWrite a w) := by
  intro v s
  rcases memWrite_cases a w s with ⟨h, e⟩ | ⟨h, e⟩ | ⟨h, e⟩ <;> rw [e]
  · exact memWrite_never h
  · exact memWrite_failed h
  · exact memWrite_done h

/-- The write of a phase, whose step of the sequencer leaves `INIT_STATE` alone. -/
theorem memWrite_setSeq_setInit (a : SReg) (w : Word) (q : SeqState) (v : InitState) (s : State) :
    memWrite a w (setSeq q (setInit v s)) = (memWrite a w (setSeq q s)).mapState (setInit v) :=
  memWrite_ignoresInit a w v (setSeq q s)

theorem unlockPhase_ignoresInit : ReplyIgnoresInit unlockPhase := by
  intro v s
  rw [unlockPhase, unlockPhase, memWrite_setSeq_setInit]
  cases memWrite .unlock unlockSentinel (setSeq .unlocking s) <;> rfl

theorem programPhase_ignoresInit (slot : SReg) (w : Word) : ReplyIgnoresInit (programPhase slot w) := by
  intro v s
  rw [programPhase, programPhase, memWrite_setSeq_setInit]
  cases memWrite slot w (setSeq .writing s) <;> rfl

theorem lockPhase_ignoresInit : ReplyIgnoresInit lockPhase := by
  intro v s
  rw [lockPhase, lockPhase, memWrite_setSeq_setInit]
  cases memWrite .unlock lockSentinel (setSeq .locking s) <;> rfl

/-- Transactions and the steps after them. -/
theorem orRaise_ignoresInit {k : α → State → Result} (hr : ReplyIgnoresInit r) (hk : ∀ x, IgnoresInit (k x)) :
    IgnoresInit fun s => (r s).orRaise k := by
  intro v s
  dsimp only
  rw [hr v s]
  cases r s with
  | done x t => exact hk x v t
  | failed t => exact raise_ignoresInit .transportError v t
  | hung => rfl

theorem readAndFinish_ignoresInit (a : SReg) (o : Word → Outputs) : IgnoresInit (readAndFinish a o) :=
  orRaise_ignoresInit (memRead_ignoresInit a) fun w => finish_ignoresInit (o w)

theorem writeAndFinish_ignoresInit (a : SReg) (w : Word) : IgnoresInit (writeAndFinish a w) :=
  orRaise_ignoresInit (memWrite_ignoresInit a w) fun _ => finish_ignoresInit okNothing

/-- The steps of `SET.f` (R162). -/
theorem setSteps_ignoresInit (f : CfgField) (w : Word) :
    IgnoresInit fun s => (memRead .cfg s).orRaise fun c => writeAndFinish .cfg (pack f c w) :=
  orRaise_ignoresInit (memRead_ignoresInit .cfg) fun c => writeAndFinish_ignoresInit .cfg (pack f c w)

/-- The steps of `WRSCRATCH` of a slot (R212). -/
theorem scratchSteps_ignoresInit (slot : SReg) (w : Word) :
    IgnoresInit fun s => (unlockPhase s).orRaise fun _ s1 => (programPhase slot w s1).orRaise fun _ s2 =>
      (lockPhase s2).orRaise fun _ s3 => finish okNothing s3 :=
  orRaise_ignoresInit unlockPhase_ignoresInit fun _ =>
    orRaise_ignoresInit (programPhase_ignoresInit slot w) fun _ =>
      orRaise_ignoresInit lockPhase_ignoresInit fun _ => finish_ignoresInit okNothing

end Steps

/-- The operation is steps that ignore `INIT_STATE`, behind the check for a bound handle (R250). -/
def RunsOnHandle (i : Instr) : Prop := ∃ k, (∀ s, exec i s = onHandle s k) ∧ IgnoresInit k

section OnHandle

variable {i : Instr}

theorem runsOnHandle_rdreg (addr : Byte) : RunsOnHandle (.rdreg addr) := by
  refine ⟨_, fun _ => rfl, ?_⟩
  cases regAt addr with
  | none => exact refused_ignoresInit _
  | some a => exact readAndFinish_ignoresInit a okOut

theorem runsOnHandle_wrreg (addr : Byte) (w : Word) : RunsOnHandle (.wrreg addr w) := by
  refine ⟨_, fun _ => rfl, ?_⟩
  cases regAt addr with
  | none => exact refused_ignoresInit _
  | some a =>
    cases ha : wrregAdmits a with
    | true => simpa only [ha, if_true] using writeAndFinish_ignoresInit a w
    | false => simpa only [ha, Bool.false_eq_true, if_false] using refused_ignoresInit (.writeAddress addr)

theorem runsOnHandle_wrscratch (addr : Byte) (w : Word) : RunsOnHandle (.wrscratch addr w) := by
  refine ⟨_, fun _ => rfl, ?_⟩
  cases slotAt addr with
  | none => exact raise_ignoresInit .invalidRegister
  | some slot => exact scratchSteps_ignoresInit slot w

theorem runsOnHandle_rdscratch (addr : Byte) : RunsOnHandle (.rdscratch addr) := by
  refine ⟨_, fun _ => rfl, ?_⟩
  cases slotAt addr with
  | none => exact raise_ignoresInit .invalidRegister
  | some slot => exact readAndFinish_ignoresInit slot okOut

/-- Every Layer 1 operation other than `BEGIN` (R250). -/
theorem runsOnHandle_of_layerOne (hl : i.layer = 1) (hn : i.isBegin = false) : RunsOnHandle i := by
  cases i with
  | packMode | packRate | packAvg | packTa | packPol | unpackMode | unpackRate | unpackAvg | unpackTa | unpackPol
  | raw2c | c2raw | c2f | raw2f => cases hl
  | setMode w | setRate w | setAvg w | setTa w | setPol w => exact ⟨_, fun _ => rfl, setSteps_ignoresInit _ w⟩
  | getMode | getRate | getAvg | getTa | getPol | getTemp | getHigh | getLow | getOffset | getId =>
    exact ⟨_, fun _ => rfl, readAndFinish_ignoresInit _ _⟩
  | setHigh | setLow | setOffset | resetSensor => exact ⟨_, fun _ => rfl, writeAndFinish_ignoresInit _ _⟩
  | rdreg addr => exact runsOnHandle_rdreg addr
  | wrreg addr w => exact runsOnHandle_wrreg addr w
  | beginHandle => cases hn
  | wrscratch addr w => exact runsOnHandle_wrscratch addr w
  | rdscratch addr => exact runsOnHandle_rdscratch addr

theorem layer_eq_zero_or_one (i : Instr) : i.layer = 0 ∨ i.layer = 1 := by
  cases i <;> simp [Instr.layer]

end OnHandle

/-! ### Before `BEGIN` and after a failed one -/

section Handle

variable {i : Instr} {s : State}

/-- Before `BEGIN` a Layer 1 operation is refused (R250; log 18). -/
theorem exec_before_begin (hl : i.layer = 1) (hn : i.isBegin = false) (hu : s.initState = .uninitialized) :
    exec i s = .refused .beforeBegin := by
  obtain ⟨k, hexec, -⟩ := runsOnHandle_of_layerOne hl hn
  rw [hexec s, onHandle_unbound hu]

/-- On a bound handle an operation other than `BEGIN` comes to the same whichever bound state it is in (R250, R279). -/
theorem exec_setInit (hn : i.isBegin = false) (hb : s.initState ≠ .uninitialized) {v : InitState}
    (hv : v ≠ .uninitialized) : exec i (setInit v s) = mapNext (setInit v) (exec i s) := by
  rcases layer_eq_zero_or_one i with hl | hl
  · obtain ⟨o, -, hexec⟩ := layerZeroDependsOnOperandsAlone i hl
    rw [hexec, hexec]
    rfl
  · obtain ⟨k, hexec, hk⟩ := runsOnHandle_of_layerOne hl hn
    have hbound : (setInit v s).initState ≠ .uninitialized := hv
    rw [hexec, hexec, onHandle_bound hbound, onHandle_bound hb, hk v s]

end Handle

/-- Settles O48. -/
theorem layerOneBeforeBeginIsRefused : Obligations.LayerOneBeforeBeginIsRefused := by
  intro i s hu
  refine ⟨fun hl hn => exec_before_begin hl hn hu, fun hl => ?_⟩
  obtain ⟨o, -, hexec⟩ := layerZeroDependsOnOperandsAlone i hl
  exact ⟨_, hexec s⟩

/-- Settles O49: the `Failed` handle is the one made ready, with `INIT_STATE` set back. -/
theorem failedHandleRunsLikeAReadyOne : Obligations.FailedHandleRunsLikeAReadyOne := by
  intro i s hn hf
  have hback : s = setInit .failed (setInit .ready s) := by rw [setInit, setInit, ← hf]
  have hexec : exec i s = mapNext (setInit .failed) (exec i (setInit .ready s)) := calc
    exec i s = exec i (setInit .failed (setInit .ready s)) := congrArg (exec i) hback
    _ = _ := exec_setInit hn (by simp) (by simp)
  rw [hexec]
  exact ⟨fun t ht => congrArg (mapNext _) ht, fun e he => congrArg (mapNext _) he, fun e he => congrArg (mapNext _) he⟩

/-! ### The refusals -/

section Refusals

variable {s : State} {i : Instr} {e : Refusal}

/-- What is refused on the handle made ready is refused on it in any bound state. -/
theorem exec_refused_of_ready (hn : i.isBegin = false) (hb : s.initState ≠ .uninitialized)
    (h : exec i (setInit .ready s) = .refused e) : exec i s = .refused e := by
  rw [exec_setInit hn hb (by simp)] at h
  cases hexec : exec i s with
  | refused e' => rw [hexec] at h; exact h
  | next t => rw [hexec] at h; cases h
  | fault r => rw [hexec] at h; cases h

/-- An operation is refused wherever a shape of refusal has it (R256). -/
theorem RefusalShape.exec_eq (h : RefusalShape s i e) : exec i s = .refused e := by
  cases h with
  | beforeBegin _ hl hn hu => exact exec_before_begin hl hn hu
  | beginAgain _ _ _ hb => exact exec_begin_again hb
  | beginAddress _ _ _ hu ha => exact exec_begin_address hu ha
  | readAddress _ hb ha => exact exec_refused_of_ready rfl hb (exec_rdreg_refused rfl ha)
  | writeAddress _ w hb ha => exact exec_refused_of_ready rfl hb (exec_wrreg_refused rfl ha w)

theorem exec_refused_iff : exec i s = .refused e ↔ RefusalShape s i e :=
  ⟨exec_refusalShape, RefusalShape.exec_eq⟩

/-- The addresses with no register that `WRREG` admits (R37, R161). -/
theorem not_wrregAdmits_iff {b : Byte} : (∀ a, regAt b = some a → wrregAdmits a = false) ↔
    b ≠ 0x01 ∧ b ≠ 0x02 ∧ b ≠ 0x03 ∧ b ≠ 0x04 ∧ b ≠ 0x07 := by
  constructor
  · intro h
    have hne (a : SReg) (ha : wrregAdmits a = true) : b ≠ regAddr a := by
      rintro rfl
      exact Bool.eq_false_iff.mp (h a (regAt_regAddr a)) ha
    exact ⟨hne .cfg rfl, hne .high rfl, hne .low rfl, hne .unlock rfl, hne .offset rfl⟩
  · rintro ⟨h1, h2, h3, h4, h7⟩ a ha
    rw [Bool.eq_false_iff, ne_eq, wrregAdmits_iff, regAddr_of_regAt ha]
    simp only [h1, h2, h3, h4, h7, or_self, not_false_eq_true]

theorem legalDevAddr_eq_false_iff {a : BitVec 7} :
    legalDevAddr a = false ↔ a ≠ 0x48 ∧ a ≠ 0x49 ∧ a ≠ 0x4A ∧ a ≠ 0x4B := by
  simp only [Bool.eq_false_iff, ne_eq, legalDevAddr_iff, not_or]

/-- What the spec refuses is what has a shape of refusal (R256). -/
theorem refuses_iff_refusalShape : refuses i s ↔ ∃ e, RefusalShape s i e := by
  constructor
  · rintro (⟨hl, hn, hu⟩ | ⟨hi, hb⟩ | ⟨addr, rfl, hhole, hid⟩ | ⟨addr, w, rfl, haddr⟩ | ⟨a, clk, pins, rfl, ha⟩)
    · exact ⟨_, .beforeBegin i hl hn hu⟩
    · obtain ⟨a, clk, pins, rfl⟩ := eq_beginHandle_of_isBegin hi
      exact ⟨_, .beginAgain a clk pins hb⟩
    · by_cases hu : s.initState = .uninitialized
      · exact ⟨_, .beforeBegin _ rfl rfl hu⟩
      · exact ⟨_, .readAddress addr hu (regAt_eq_none_iff.mpr ⟨hhole, hid⟩)⟩
    · by_cases hu : s.initState = .uninitialized
      · exact ⟨_, .beforeBegin _ rfl rfl hu⟩
      · exact ⟨_, .writeAddress addr w hu (not_wrregAdmits_iff.mpr haddr)⟩
    · by_cases hu : s.initState = .uninitialized
      · exact ⟨_, .beginAddress a clk pins hu (legalDevAddr_eq_false_iff.mpr ha)⟩
      · exact ⟨_, .beginAgain a clk pins hu⟩
  · rintro ⟨e, h⟩
    cases h with
    | beforeBegin _ hl hn hu => exact .inl ⟨hl, hn, hu⟩
    | beginAgain _ _ _ hb => exact .inr (.inl ⟨rfl, hb⟩)
    | beginAddress a clk pins _ ha =>
      exact .inr (.inr (.inr (.inr ⟨a, clk, pins, rfl, legalDevAddr_eq_false_iff.mp ha⟩)))
    | readAddress addr _ ha => exact .inr (.inr (.inl ⟨addr, rfl, regAt_eq_none_iff.mp ha⟩))
    | writeAddress addr w _ ha => exact .inr (.inr (.inr (.inl ⟨addr, w, rfl, not_wrregAdmits_iff.mp ha⟩)))

/-- `exec` refuses exactly what the spec refuses (R256). -/
theorem exec_refused_iff_refuses : (∃ e, exec i s = .refused e) ↔ refuses i s := by
  simp only [exec_refused_iff, refuses_iff_refusalShape]

/-- A step refuses what the decoder rejects, and the operations that `exec` refuses (R81, R256). -/
theorem step_refused_iff {r : Request} {rest : List Request} (hr : s.requests = r :: rest) :
    (∃ e, step s = .refused e) ↔
      decode r = .error (.reservedSelector r.opsel) ∨ ∃ i, decode r = .ok i ∧ refuses i s := by
  rcases decode_cases r with ⟨i, hd, -⟩ | hd
  · have hrequests : refuses i { s with requests := rest } ↔ refuses i s := Iff.rfl
    rw [step_of_decode hr hd, exec_refused_iff_refuses, hrequests, hd]
    simp
  · rw [step_of_reserved hr hd]
    exact iff_of_true ⟨_, rfl⟩ (.inl hd)

end Refusals

/-- Settles O50. -/
theorem refusedExactlyWhenTheSpecRefuses : Obligations.RefusedExactlyWhenTheSpecRefuses :=
  ⟨fun _ _ => exec_refused_iff_refuses, fun _ _ _ => step_refused_iff⟩

/-! ### The statuses -/

@[simp] theorem statusOfCode_statusCode (e : Status) : statusOfCode (statusCode e) = e := by
  cases e <;> rfl

/-- Each of the four numbers is the number of a status (R240). -/
@[simp] theorem statusCode_statusOfCode (c : BitVec 2) : statusCode (statusOfCode c) = c := by
  revert c
  decide

/-- The first `k` transactions after `s` completed, the next one failed, and no other was made before `t`. -/
structure FailsAt (k : Nat) (s t : State) : Prop where
  pos : t.pos = s.pos + k + 1
  before : s.completes k
  failed : (s.eventAt (s.pos + k)).answer = .failed

/-- What a `STATUS` says of the operation that reports it: Layer 0 reports none (R240), and each error has its own
cause (R241 to R243). -/
def StatusMeans (s : State) (i : Instr) (t : State) : Option Status → Prop
  | none => i.layer = 0
  | some .ok => i.layer = 1
  | some .transportError => i.layer = 1 ∧ ∃ k, FailsAt k s t
  | some .identityMismatch => i.isBegin = true
  | some .invalidRegister => ∃ addr, slotAt addr = none ∧ (i = .rdscratch addr ∨ ∃ v, i = .wrscratch addr v)

section Statuses

variable {s t : State} {i : Instr}

theorem completes_zero (s : State) : s.completes 0 := fun _ h => absurd h (Nat.not_lt_zero _)

theorem completes_succ {k : Nat} (h : s.completes k) (h' : (s.eventAt (s.pos + k)).answer = .done) :
    s.completes (k + 1) := fun j hj =>
  (Nat.lt_succ_iff_lt_or_eq.mp hj).elim (h j) fun hjk => hjk ▸ h'

/-- The `STATUS` of every shape of next state has its meaning. -/
theorem NextShape.statusMeans (h : NextShape s i t) : StatusMeans s i t t.outputs.status := by
  have hfirst (he : s.event.answer = .done) : s.completes 1 := completes_succ (completes_zero s) he
  cases h with
  | pure _ _ hl ho => rw [setOutputs_outputs, ho]; exact hl
  | badSlot _ addr _ ha hi => exact ⟨addr, ha, hi⟩
  | readDone _ _ _ hl _ _ _ _ ho => rw [setOutputs_outputs, ho]; exact hl
  | writeDone _ _ _ hl | setDone _ _ hl => exact hl
  | scratchDone | probeAccepted => rfl
  | probeMismatch => rfl
  | readFailed _ _ hl _ _ _ he | writeFailed _ _ _ hl _ _ _ _ he =>
    exact ⟨hl, 0, rfl, completes_zero s, he⟩
  | unlockFailed _ _ _ _ _ he | probeFailed _ _ _ _ _ he => exact ⟨rfl, 0, rfl, completes_zero s, he⟩
  | setFailed _ _ hl _ _ _ he he' => exact ⟨hl, 1, rfl, hfirst he, he'⟩
  | programFailed _ _ _ _ _ he he' =>
    rw [unlockDone_event] at he'
    exact ⟨rfl, 1, rfl, hfirst he, he'⟩
  | lockFailed _ _ _ _ _ he he' he'' =>
    rw [unlockDone_event] at he'
    rw [programDone_unlockDone_event] at he''
    exact ⟨rfl, 2, rfl, completes_succ (hfirst he) he', he''⟩

theorem exec_statusMeans {e : Option Status} (h : exec i s = .next t) (he : t.outputs.status = e) :
    StatusMeans s i t e :=
  he ▸ (exec_next_shape h).statusMeans

/-- Exactly Layer 0 operations report no `STATUS` (R240). -/
theorem exec_status_eq_none_iff (h : exec i s = .next t) : t.outputs.status = none ↔ i.layer = 0 := by
  refine ⟨exec_statusMeans h, fun hl => ?_⟩
  obtain ⟨o, ho, hexec⟩ := layerZeroDependsOnOperandsAlone i hl
  cases (hexec s).symm.trans h
  exact ho

end Statuses

/-- Settles O54. -/
theorem statusCodesAreAsNumbered : Obligations.StatusCodesAreAsNumbered :=
  ⟨⟨rfl, rfl, rfl, rfl⟩, statusOfCode_statusCode, statusCode_statusOfCode, fun _ _ _ => exec_status_eq_none_iff⟩

/-- Settles O55: what the meaning of each error says. -/
theorem eachErrorHasItsOwnRaisers : Obligations.EachErrorHasItsOwnRaisers := by
  intro i s t h
  refine ⟨exec_statusMeans h, fun he => ?_, fun he => ?_⟩
  · obtain ⟨addr, ha, hi⟩ := exec_statusMeans h he
    obtain ⟨h5, h6, h8⟩ := slotAt_eq_none_iff.mp ha
    exact ⟨addr, h5, h6, h8, hi⟩
  · obtain ⟨-, k, hpos, hbefore, hfailed⟩ := exec_statusMeans h he
    exact ⟨k, by omega, hbefore, hfailed⟩

end Sys2Proof.Machine

/-!
PROOFS. The statements of `70_reset_and_hazards.md`: what reset leaves of the block, the update that a setter loses, and
what makes an operation hang. That an operation hangs is read off the outcomes of its transactions; that one with an
unanswered first transaction does is what the shapes of the next states and the refusals leave.
-/

namespace Sys2Proof.Machine

/-! ### The block after reset -/

/-- Settles O59. -/
theorem resetLeavesTheBlockFresh : Obligations.ResetLeavesTheBlockFresh := ⟨rfl, rfl, rfl⟩

/-- Settles O57: the handle of the fresh block is `Uninitialized`, and an empty trace skips no wait. -/
theorem resetHasTheBlockInvariant : Obligations.ResetHasTheBlockInvariant := by
  obtain ⟨hinit, hseq, htrace⟩ := resetLeavesTheBlockFresh
  have hnothing : Owes [] Owed.zero := rfl
  exact {
    boundary := by simp [hinit]
    sequencer := .inl hseq
    address := fun hb => absurd hinit hb
    fresh := fun _ => ⟨htrace, hseq⟩
    waits := by rw [htrace]; exact hnothing.waitsKept }

/-! ### The lost update -/

section LostUpdate

variable {s : State} {f : CfgField} {v : Word}

/-- The reference sensor holds in `CFG` what a completed setter wrote, whatever the write found there (R51, R276). -/
theorem setFieldDone_cfg_reference (hk : s.kind = .reference) :
    (setFieldDone f v s).sensor.cfg = updatedCfg f v s := by
  rw [setOutputs_sensor, writeDone_sensor, readDone_kind, hk, ← Sensor.get_cfg, Sensor.get_written_reference,
    if_pos ⟨rfl, .inl rfl⟩]

/-- A setter inserts its field into the word `CFG` held before it, when nothing disturbs its read (R162). -/
theorem updatedCfg_of_quiet_read (h : s.event = BusEvent.quiet) : updatedCfg f v s = pack f s.sensor.cfg v := by
  have hunchanged : s.event.changes = [] := by rw [h]; rfl
  rw [updatedCfg, State.found_of_no_changes hunchanged (.inr rfl)]

end LostUpdate

/-- Settles O30: both transactions complete, and the word written was made of the one read before `w` came. -/
theorem lostUpdateIsSilent : Obligations.LostUpdateIsSilent := by
  intro f v w s hs hk hread hwrite
  have hreadDone : s.event.answer = .done := congrArg BusEvent.answer hread
  have hwriteDone : (s.eventAt (s.pos + 1)).answer = .done := congrArg BusEvent.answer hwrite
  exact ⟨setFieldDone f v s, exec_setOf_done f v hs hreadDone hwriteDone, rfl,
    (setFieldDone_cfg_reference hk).trans (updatedCfg_of_quiet_read hread)⟩

/-! ### What makes an operation hang -/

/-- One of the `n` next transactions is never answered, and all before it complete (R283). -/
def HangsWithin (n : Nat) (s : State) : Prop :=
  ∃ k, k < n ∧ s.completes k ∧ (s.eventAt (s.pos + k)).answer = .never

section Hangs

variable {s : State} {i : Instr} {r : Fault} {n : Nat}

theorem hangsWithin_of_never (h : s.event.answer = .never) : HangsWithin (n + 1) s :=
  ⟨0, by omega, completes_zero s, h⟩

/-- A transaction that completes puts the one that is never answered one place further on. -/
theorem hangsWithin_of_done (t : State) (h : s.event.answer = .done) (hpos : t.pos = s.pos + 1)
    (hevents : ∀ m, t.eventAt m = s.eventAt m) (ht : HangsWithin n t) : HangsWithin (n + 1) s := by
  obtain ⟨k, hk, hbefore, hnever⟩ := ht
  have hshift (j : Nat) : t.eventAt (t.pos + j) = s.eventAt (s.pos + (j + 1)) := by
    rw [hevents, hpos, Nat.add_assoc, Nat.add_comm 1 j]
  refine ⟨k + 1, by omega, fun j hj => ?_, hshift k ▸ hnever⟩
  cases j with
  | zero => exact h
  | succ j => exact hshift j ▸ hbefore j (by omega)

theorem not_hangsWithin_of_transportAnswers (h : s.transportAnswers) : ¬ HangsWithin n s :=
  fun ⟨_, _, _, hnever⟩ => h _ hnever

/-- A Layer 1 operation that faults ran its steps, on a bound handle. -/
theorem onHandle_fault {k : State → Result} (h : onHandle s k = .fault r) :
    s.initState ≠ .uninitialized ∧ k s = .fault r := by
  by_cases hu : s.initState = .uninitialized
  · rw [onHandle_unbound hu] at h
    cases h
  · rw [onHandle_bound hu] at h
    exact ⟨hu, h⟩

theorem hangsWithin_of_read {a : SReg} {o : Word → Outputs} (h : readAndFinish a o s = .fault r) :
    HangsWithin 1 s := by
  rcases readAndFinish_cases s a o with ⟨hnever, _⟩ | ⟨_, e⟩ | ⟨_, e⟩
  · exact hangsWithin_of_never hnever
  · cases e.symm.trans h
  · cases e.symm.trans h

theorem hangsWithin_of_write {a : SReg} {v : Word} (h : writeAndFinish a v s = .fault r) : HangsWithin 1 s := by
  rcases writeAndFinish_cases s a v with ⟨hnever, _⟩ | ⟨_, e⟩ | ⟨_, e⟩
  · exact hangsWithin_of_never hnever
  · cases e.symm.trans h
  · cases e.symm.trans h

/-- A setter hangs at its read or at its write (R162). -/
theorem hangsWithin_of_set {f : CfgField} {v : Word} (h : setField f v s = .fault r) : HangsWithin 2 s := by
  rcases setField_cases s (onHandle_fault h).1 f v with
    ⟨hread, _⟩ | ⟨_, e⟩ | ⟨hread, hwrite, _⟩ | ⟨_, _, e⟩ | ⟨_, _, e⟩
  · exact hangsWithin_of_never hread
  · cases e.symm.trans h
  · exact hangsWithin_of_done (readDone .cfg s) hread rfl (fun _ => rfl) (hangsWithin_of_never hwrite)
  · cases e.symm.trans h
  · cases e.symm.trans h

theorem hangsWithin_of_rdreg {addr : Byte} (h : execRdreg addr s = .fault r) : HangsWithin 1 s := by
  obtain ⟨-, h⟩ := onHandle_fault h
  split at h
  · exact hangsWithin_of_read h
  · cases h

theorem hangsWithin_of_wrreg {addr : Byte} {v : Word} (h : execWrreg addr v s = .fault r) : HangsWithin 1 s := by
  obtain ⟨-, h⟩ := onHandle_fault h
  split at h
  · split at h
    · exact hangsWithin_of_write h
    · cases h
  · cases h

theorem hangsWithin_of_rdscratch {addr : Byte} (h : execRdscratch addr s = .fault r) : HangsWithin 1 s := by
  obtain ⟨-, h⟩ := onHandle_fault h
  split at h
  · cases h
  · exact hangsWithin_of_read h

/-- `WRSCRATCH` hangs in one of its three phases (R212). -/
theorem hangsWithin_of_wrscratch {addr : Byte} {v : Word} (h : execWrscratch addr v s = .fault r) :
    HangsWithin 3 s := by
  obtain ⟨hb, hsteps⟩ := onHandle_fault h
  cases ha : slotAt addr with
  | none =>
    simp only [ha] at hsteps
    cases hsteps
  | some slot =>
    have hunlocked {n : Nat} (he : s.event.answer = .done) (hrest : HangsWithin n (unlockDone s)) :
        HangsWithin (n + 1) s := hangsWithin_of_done (unlockDone s) he rfl (fun _ => rfl) hrest
    rcases execWrscratch_cases s hb ha v with
      ⟨hunlock | ⟨hunlock, hdata⟩ | ⟨hunlock, hdata, hlock⟩, _⟩ | ⟨_, e⟩ | ⟨_, _, e⟩ | ⟨_, _, _, e⟩ | ⟨_, _, _, e⟩
    · exact hangsWithin_of_never hunlock
    · exact hunlocked hunlock (hangsWithin_of_never hdata)
    · exact hunlocked hunlock (hangsWithin_of_done (programDone (unlockDone s) slot v) hdata rfl (fun _ => rfl)
        (hangsWithin_of_never hlock))
    · cases e.symm.trans h
    · cases e.symm.trans h
    · cases e.symm.trans h
    · cases e.symm.trans h

/-- `BEGIN` hangs at its probe (R210). -/
theorem hangsWithin_of_begin {a : BitVec 7} {clk : Nat} {pins : Option Nat}
    (h : execBeginHandle a clk pins s = .fault r) : HangsWithin 1 s := by
  rcases execBeginHandle_cases s a clk pins with
    ⟨_, e⟩ | ⟨_, _, e⟩ | ⟨_, _, ⟨hnever, _⟩ | ⟨_, e⟩ | ⟨_, _, e⟩ | ⟨_, _, e⟩⟩
  · cases e.symm.trans h
  · cases e.symm.trans h
  · exact hangsWithin_of_never hnever
  · cases e.symm.trans h
  · cases e.symm.trans h
  · cases e.symm.trans h

/-- An operation that faults met one of its own transactions unanswered (R283). -/
theorem exec_fault_hangsWithin (h : exec i s = .fault r) : HangsWithin (mostTransactions i) s := by
  cases i with
  | packMode | packRate | packAvg | packTa | packPol | unpackMode | unpackRate | unpackAvg | unpackTa | unpackPol
  | raw2c | c2raw | c2f | raw2f => cases h
  | setMode | setRate | setAvg | setTa | setPol => exact hangsWithin_of_set h
  | getMode | getRate | getAvg | getTa | getPol | getTemp | getHigh | getLow | getOffset | getId =>
    exact hangsWithin_of_read (onHandle_fault h).2
  | setHigh | setLow | setOffset | resetSensor => exact hangsWithin_of_write (onHandle_fault h).2
  | rdreg => exact hangsWithin_of_rdreg h
  | wrreg => exact hangsWithin_of_wrreg h
  | beginHandle => exact hangsWithin_of_begin h
  | wrscratch => exact hangsWithin_of_wrscratch h
  | rdscratch => exact hangsWithin_of_rdscratch h

/-- A Layer 1 operation that ends although its first transaction would never be answered made none: it named no
slot (R215). -/
theorem NextShape.badSlot_of_never {t : State} (h : NextShape s i t) (hl : i.layer = 1)
    (hnever : s.event.answer = .never) :
    ∃ addr, slotAt addr = none ∧ (i = .rdscratch addr ∨ ∃ v, i = .wrscratch addr v) := by
  cases h with
  | pure _ _ hl' => cases hl'.symm.trans hl
  | badSlot _ addr _ ha hi => exact ⟨addr, ha, hi⟩
  | readDone _ _ _ _ _ _ _ he | readFailed _ _ _ _ _ _ he | writeDone _ _ _ _ _ _ _ _ he
  | writeFailed _ _ _ _ _ _ _ _ he | setDone _ _ _ _ _ _ he | setFailed _ _ _ _ _ _ he
  | scratchDone _ _ _ _ _ he | unlockFailed _ _ _ _ _ he | programFailed _ _ _ _ _ he | lockFailed _ _ _ _ _ he
  | probeFailed _ _ _ _ _ he | probeAccepted _ _ _ _ _ he | probeMismatch _ _ _ _ _ he =>
    cases he.symm.trans hnever

/-- An operation whose first transaction is never answered hangs: it ends in no next state and is not refused (R283). -/
theorem exec_hangs (hl : i.layer = 1) (hr : ¬refuses i s)
    (hslot : ∀ a : Byte, (i = .rdscratch a ∨ ∃ v, i = .wrscratch a v) → a = 0x05 ∨ a = 0x06 ∨ a = 0x08)
    (hnever : s.event.answer = .never) : exec i s = .fault .transportNeverReturns := by
  cases hexec : exec i s with
  | fault r => cases r; rfl
  | refused e => exact absurd (exec_refused_iff_refuses.mp ⟨e, hexec⟩) hr
  | next t =>
    obtain ⟨addr, ha, hi⟩ := (exec_next_shape hexec).badSlot_of_never hl hnever
    obtain ⟨h5, h6, h8⟩ := slotAt_eq_none_iff.mp ha
    exact absurd (hslot addr hi) (by simp only [h5, h6, h8, or_self, not_false_eq_true])

end Hangs

/-- Settles O51: a fault is a hang at one of the operation's own transactions, and a first transaction that is never
answered leaves nothing else. -/
theorem operationsEndIfTheTransportAnswers : Obligations.OperationsEndIfTheTransportAnswers :=
  ⟨fun _ _ _ hanswers h => not_hangsWithin_of_transportAnswers hanswers (exec_fault_hangsWithin h),
    fun _ _ h => exec_fault_hangsWithin h, fun _ _ hl hr hslot hnever => exec_hangs hl hr hslot hnever⟩

end Sys2Proof.Machine
